-- ==== Sys2Proof/Word.lean ====
section
/-! DEFINITION. The word types of the block and the two colour types of its ColorModel (00_scope.md R7, R8; 10_state.md R22).
All values are unsigned and bit 0 is the least significant bit (R8). -/

namespace Sys2Proof

/-- An 8-bit channel, gamma entry or brightness (R7). -/
abbrev Byte := BitVec 8

/-- A 24-bit pixel index or sequencer counter (30_encoding.md R81, 10_state.md R45). -/
abbrev Idx := BitVec 24

/-- A 32-bit transmission word, queue element or response (R7, 10_state.md R30, R32, R35). -/
abbrev Word32 := BitVec 32

/-- A 64-bit command word (30_encoding.md R80). -/
abbrev Cmd := BitVec 64

/-- ColorModel's RGB value: three independent 8-bit channels. -/
structure Rgb where
  r : Byte
  g : Byte
  b : Byte
  deriving DecidableEq, Repr

/-- ColorModel's RGBW value, one element of the pixel buffer: "4 independent 8-bit channels (r,g,b,w)" (10_state.md R22). -/
structure Pixel where
  r : Byte
  g : Byte
  b : Byte
  w : Byte
  deriving DecidableEq, Repr

/-- The pixel that is off: all four channels zero (40_buffer_ops.md R104). -/
def Pixel.off : Pixel := ⟨0, 0, 0, 0⟩

end Sys2Proof
end

