-- ==== Sys2Proof/Config.lean ====
section
/-! DEFINITION. What an implementation fixes (00_scope.md R5, R6, R15; 10_state.md R21) and the free values: the choices the
spec leaves to a draw (R10, R162) or to the interleaving of the agents (44_engine_agents.md R202).

`Cfg` and `Params` are held in State, which no step changes there: a statement about every state then speaks of every
configuration and of every platform (R15, 93_implementation_defined.md U10 to U12). -/

namespace Sys2Proof

/-- The wire format, fixed at construction (R1, R21): `rgb` is 24-bit GRB, `rgbw` is 32-bit GRBW. -/
inductive Fmt where
  | rgb
  | rgbw
  deriving DecidableEq, Repr

/-- `CFG.FMT` as the spec's bit: 0 is RGB, 1 is RGBW (R21, decision D6). -/
def Fmt.bit : Fmt → BitVec 1
  | .rgb => 0
  | .rgbw => 1

/-- The two word widths of the timing engine (R7, R40). -/
inductive Width where
  | w24
  | w32
  deriving DecidableEq, Repr

/-- The number of bits a width stands for. -/
def Width.bits : Width → Nat
  | .w24 => 24
  | .w32 => 32

/-- The derived constant `WIDTH`: 24 for RGB, 32 for RGBW (R21). -/
def Fmt.width : Fmt → Width
  | .rgb => .w24
  | .rgbw => .w32

/-- `CFG`: the six construction parameters (R5, R21). `slotReq = -1` asks for auto-claim. -/
structure Cfg where
  pin : Nat
  n : Nat
  fmt : Fmt
  rateHz : Nat
  block : Nat
  slotReq : Int
  deriving DecidableEq, Repr

/-- `WIDTH` of an instance. -/
def Cfg.width (c : Cfg) : Width := c.fmt.width

/-- The parameters the source leaves to the platform (R6). `progFits` is `PROG_FITS`, one entry for each block.
`tResetUs` is `T_RESET_US` in whole microseconds: R6 says only "a number of microseconds" and gives no type (DESIGN CHOICE, log
entry 20). -/
structure Params where
  fifoDepth : Nat
  nblocks : Nat
  nslots : Nat
  nchan : Nat
  progFits : List Bool
  tResetUs : Nat
  gammaCurve : Vector Byte 256
  deriving DecidableEq, Repr

/-! The default `GAMMA_CURVE` of 41_color_pipeline.md R126, one row of its table a line. -/

def Config.gammaRow0 : List Byte := [0, 0, 0, 0, 0, 0, 0, 0, 0, 0, 0, 0, 0, 0, 0, 1]
def Config.gammaRow1 : List Byte := [1, 1, 1, 1, 1, 1, 1, 1, 1, 2, 2, 2, 2, 2, 2, 2]
def Config.gammaRow2 : List Byte := [3, 3, 3, 3, 3, 4, 4, 4, 4, 5, 5, 5, 5, 6, 6, 6]
def Config.gammaRow3 : List Byte := [6, 7, 7, 7, 8, 8, 8, 9, 9, 9, 10, 10, 11, 11, 11, 12]
def Config.gammaRow4 : List Byte := [12, 13, 13, 13, 14, 14, 15, 15, 16, 16, 17, 17, 18, 18, 19, 19]
def Config.gammaRow5 : List Byte := [20, 20, 21, 22, 22, 23, 23, 24, 25, 25, 26, 26, 27, 28, 28, 29]
def Config.gammaRow6 : List Byte := [30, 30, 31, 32, 33, 33, 34, 35, 35, 36, 37, 38, 39, 39, 40, 41]
def Config.gammaRow7 : List Byte := [42, 43, 43, 44, 45, 46, 47, 48, 49, 49, 50, 51, 52, 53, 54, 55]
def Config.gammaRow8 : List Byte := [56, 57, 58, 59, 60, 61, 62, 63, 64, 65, 66, 67, 68, 69, 70, 71]
def Config.gammaRow9 : List Byte := [73, 74, 75, 76, 77, 78, 79, 81, 82, 83, 84, 85, 87, 88, 89, 90]
def Config.gammaRow10 : List Byte := [91, 93, 94, 95, 97, 98, 99, 100, 102, 103, 105, 106, 107, 109, 110, 111]
def Config.gammaRow11 : List Byte := [113, 114, 116, 117, 119, 120, 121, 123, 124, 126, 127, 129, 130, 132, 133, 135]
def Config.gammaRow12 : List Byte := [137, 138, 140, 141, 143, 145, 146, 148, 149, 151, 153, 154, 156, 158, 159, 161]
def Config.gammaRow13 : List Byte := [163, 165, 166, 168, 170, 172, 173, 175, 177, 179, 181, 182, 184, 186, 188, 190]
def Config.gammaRow14 : List Byte := [192, 194, 196, 197, 199, 201, 203, 205, 207, 209, 211, 213, 215, 217, 219, 221]
def Config.gammaRow15 : List Byte := [223, 225, 227, 229, 231, 234, 236, 238, 240, 242, 244, 246, 248, 251, 253, 255]
/-- The 256 entries in order: row `r`, column `c` is entry `16 * r + c` (R126). -/
def Config.gammaEntries : List Byte :=
  gammaRow0 ++ gammaRow1 ++ gammaRow2 ++ gammaRow3 ++ gammaRow4 ++ gammaRow5 ++ gammaRow6 ++ gammaRow7 ++
    gammaRow8 ++ gammaRow9 ++ gammaRow10 ++ gammaRow11 ++ gammaRow12 ++ gammaRow13 ++ gammaRow14 ++ gammaRow15

theorem Config.gammaEntries_length : gammaEntries.length = 256 := by
  simp only [gammaEntries, List.length_append]
  rfl

/-- The default curve as a table. -/
def Config.defaultGamma : Vector Byte 256 := ⟨⟨Config.gammaEntries⟩, Config.gammaEntries_length⟩

/-! Free values. Each is applied to a counter of State, so that every use is a fresh one; none has a value that a proof can
see (log entries 2, 4 and 5). -/

/-- Which agent moves when State's schedule names none (R202: "Which enabled step comes next is not determined"). -/
opaque Config.freeAgent : Nat → BitVec 2

/-- Which unclaimed execution slot an auto-claim takes (43_engine_commands.md R162). -/
opaque Config.freeSlot : Nat → Nat

/-- Which unclaimed transfer channel BEGIN takes (R162). -/
opaque Config.freeChannel : Nat → Nat

/-- At which offset the timing program is loaded (R162, 10_state.md R37). -/
opaque Config.freeOffset : Nat → Nat

/-- Which of several block instances moves when the schedule names none (60_exceptions.md R244). -/
opaque Config.freeMember : Nat → Nat

end Sys2Proof
end

