-- ==== Sys2Proof/Syntax.lean ====
section
/-! DEFINITION. The fourteen commands (30_encoding.md R85) with their operands at the widths of R81, the names a fault records,
and a command word taken apart into the fields of R81. -/

namespace Sys2Proof

/-- The fourteen mnemonics of R85, in the order of their opcodes. -/
inductive Mnemonic where
  | setallRgb
  | setallRgbw
  | setpixelRgb
  | setpixelRgbw
  | clear
  | setbrightness
  | enablegamma
  | beginCmd
  | showCmd
  | showasync
  | busy
  | wait
  | endCmd
  | size
  deriving DecidableEq, Repr

/-- The command of one row of R85 with its operands. The operands have the widths of R81, so a term of this type can hold no
operand that does not fit its field (R83). -/
inductive Instr where
  /-- SETALL_RGB `r, g, b` (40_buffer_ops.md R100). -/
  | setallRgb (r g b : Byte)
  /-- SETALL_RGBW `r, g, b, w` (R101). -/
  | setallRgbw (r g b w : Byte)
  /-- SETPIXEL_RGB `index, r, g, b` (R102). -/
  | setpixelRgb (index : Idx) (r g b : Byte)
  /-- SETPIXEL_RGBW `index, r, g, b, w` (R103). -/
  | setpixelRgbw (index : Idx) (r g b w : Byte)
  /-- CLEAR (R104). -/
  | clear
  /-- SETBRIGHTNESS `b` (41_color_pipeline.md R120). -/
  | setbrightness (b : Byte)
  /-- ENABLEGAMMA `on` (R121). -/
  | enablegamma (on : Bool)
  /-- BEGIN (43_engine_commands.md R160). -/
  | beginCmd
  /-- SHOW (R163). -/
  | showCmd
  /-- SHOWASYNC (R165). -/
  | showasync
  /-- BUSY (R167). -/
  | busy
  /-- WAIT (R169). -/
  | wait
  /-- END (R171). -/
  | endCmd
  /-- SIZE (40_buffer_ops.md R105). -/
  | size
  deriving DecidableEq, Repr

/-- The mnemonic of a command. -/
def Instr.mnemonic : Instr → Mnemonic
  | .setallRgb _ _ _ => .setallRgb
  | .setallRgbw _ _ _ _ => .setallRgbw
  | .setpixelRgb _ _ _ _ => .setpixelRgb
  | .setpixelRgbw _ _ _ _ _ => .setpixelRgbw
  | .clear => .clear
  | .setbrightness _ => .setbrightness
  | .enablegamma _ => .enablegamma
  | .beginCmd => .beginCmd
  | .showCmd => .showCmd
  | .showasync => .showasync
  | .busy => .busy
  | .wait => .wait
  | .endCmd => .endCmd
  | .size => .size

/-- A command word taken apart (R81): `OP`, `IDX` and the four bytes of `DATA`, which a colour operand names `R, G, B, W`
from the top down; `BVAL` and the byte that holds `ON` are the `w` byte. -/
structure Fields where
  op : Byte
  idx : Idx
  r : Byte
  g : Byte
  b : Byte
  w : Byte
  deriving DecidableEq, Repr

end Sys2Proof
end

