-- ==== Sys2Proof/WellFormed.lean ====
section
/-! DEFINITION. The checks on data that comes from outside: which fields of a command word must be zero (30_encoding.md R82) and
which configurations an instance can be constructed with (10_state.md R21, 93_implementation_defined.md U13). -/

namespace Sys2Proof

/-- The seven formats of R82. -/
inductive Format where
  | N
  | C3
  | C4
  | P3
  | P4
  | B
  | F
  deriving DecidableEq, Repr

/-- The last column of R82's table: which command uses which format. -/
def Mnemonic.format : Mnemonic → Format
  | .setallRgb => .C3
  | .setallRgbw => .C4
  | .setpixelRgb => .P3
  | .setpixelRgbw => .P4
  | .clear => .N
  | .setbrightness => .B
  | .enablegamma => .F
  | .beginCmd => .N
  | .showCmd => .N
  | .showasync => .N
  | .busy => .N
  | .wait => .N
  | .endCmd => .N
  | .size => .N

/-- The row of R82's table for a format: the fields it does not use are zero. -/
def Format.unusedZero (f : Format) (x : Fields) : Bool :=
  match f with
  | .N => x.idx == 0 && x.r == 0 && x.g == 0 && x.b == 0 && x.w == 0
  | .C3 => x.idx == 0 && x.w == 0
  | .C4 => x.idx == 0
  | .P3 => x.w == 0
  | .P4 => true
  | .B => x.idx == 0 && x.r == 0 && x.g == 0 && x.b == 0
  | .F => x.idx == 0 && x.r == 0 && x.g == 0 && x.b == 0 && x.w.extractLsb' 1 7 == 0

/-- Legal platform parameters (R6): at least one queue word, block and slot, `PROG_FITS` for every block, and a latch interval
of at least 80 microseconds. -/
def Params.wf (p : Params) : Bool :=
  decide (1 ≤ p.fifoDepth) && decide (1 ≤ p.nblocks) && decide (1 ≤ p.nslots) &&
    decide (p.progFits.length = p.nblocks) && decide (80 ≤ p.tResetUs)

/-- Legal construction parameters on a platform (R21): `1 ≤ N ≤ 2^24 - 1`, a positive bit rate, a block that exists, and a slot
request of -1 or of a slot that exists. -/
def Cfg.wf (p : Params) (c : Cfg) : Bool :=
  decide (1 ≤ c.n) && decide (c.n ≤ 2 ^ 24 - 1) && decide (1 ≤ c.rateHz) && decide (c.block < p.nblocks) &&
    decide (-1 ≤ c.slotReq) && decide (c.slotReq < p.nslots)

end Sys2Proof
end

