-- ==== Sys2Proof/Machine/State.lean ====
section
/-! DEFINITION. The state of one PWS block (10_state.md R20 to R45) as plain data, the reasons a step can stop, and reset, which
is construction (70_reset_and_hazards.md R260). -/

namespace Sys2Proof.Machine

/-- The faults of 60_exceptions.md R231. `raise` (Machine/Ops.lean) records one in `State.fault`; from then on `step` answers it.
They are the spec's own and safe: "the model refuses runs the device would carry on with". -/
inductive Fault where
  /-- Raised when a reserved command word is accepted; records the word (R232). Safe: no effect is given to such a word. -/
  | illegalCommand (cw : Cmd)
  /-- Raised by BEGIN outside `Uninitialized` and by SHOW and SHOWASYNC in it; records the mnemonic (R233). Safe. -/
  | lifecycleViolation (op : Mnemonic)
  /-- Raised by the five painting commands, SHOW and SHOWASYNC while a transfer is active; records the mnemonic (R234). Safe. -/
  | misuseHazard (op : Mnemonic)
  deriving DecidableEq, Repr

/-- The refusals. -/
inductive Refusal where
  /-- An instruction that has no meaning yet, answered by `exec`'s arm for it. Every command has its meaning, so no arm
  answers it. Safe. -/
  | notModelled (mnemonic : String)
  deriving DecidableEq, Repr

/-- `ST`, the engine state (R27). -/
inductive EngineState where
  | uninitialized
  | ready
  | transmitting
  deriving DecidableEq, Repr

/-- `CH`, the transfer channel held (R29): a sum, never a sentinel index. -/
inductive Channel where
  | unavailable
  | available (c : Nat)
  deriving DecidableEq, Repr

/-- What follows the blocking push of a frame (R33). -/
inductive AfterPush where
  | thenLatch
  | thenReturn
  deriving DecidableEq, Repr

/-- `HOST`, the host sequencer, which is what this block has for a program counter (R33). -/
inductive Phase where
  | idle
  | pushing (i : Idx) (k : AfterPush)
  | waitXfer
  | latchWait
  deriving DecidableEq, Repr

/-- The transfer channel's fixed configuration (R31): whether the destination is this block's queue and is incremented, whether
the data-request signal paces the moves, the word size in bits, and whether the source is incremented. -/
structure XferConf where
  destFifo : Bool
  destIncrement : Bool
  pacedByDreq : Bool
  wordBits : Nat
  srcIncrement : Bool
  deriving DecidableEq, Repr

/-- `XFER`, the transfer channel's registers (R31). -/
structure Xfer where
  active : Bool
  rptr : Idx
  rem : Idx
  conf : XferConf
  deriving DecidableEq, Repr

/-- `TE`, the configuration of the execution slot held (R40). -/
structure TimingEngine where
  pin : Nat
  rateHz : Nat
  width : Width
  deriving DecidableEq, Repr

/-- An event of the wire log (R34). `word v w` is the spec's `Word(v, n)` with `n = w.bits`, `v` held in 32 bits. -/
inductive Event where
  | word (v : Word32) (w : Width)
  | latch
  | abort
  deriving DecidableEq, Repr

/-- Whether a word event's value fits its width: `0 <= v < 2^n` (R34). -/
def Event.wf : Event → Bool
  | .word v w => decide (v.toNat < 2 ^ w.bits)
  | .latch => true
  | .abort => true

/-- `PLAT.PROG[blk]` (R37). -/
inductive Program where
  | notLoaded
  | loaded (off : Nat)
  deriving DecidableEq, Repr

/-- `PLAT`, the platform state all blocks share (R37 to R39): the program of each timing block, the claimed bit of each slot of
each block, and the claimed bit of each transfer channel. -/
structure Plat where
  prog : List Program
  slotClaimed : List (List Bool)
  chanClaimed : List Bool
  deriving DecidableEq, Repr

/-- A platform value has one entry for each block, slot and channel of the platform. -/
def Plat.wf (p : Params) (x : Plat) : Bool :=
  decide (x.prog.length = p.nblocks) && decide (x.slotClaimed.length = p.nblocks) &&
    x.slotClaimed.all (fun row => decide (row.length = p.nslots)) && decide (x.chanClaimed.length = p.nchan)

/-- The launch value of a platform nothing has used yet (R37 to R39). -/
def Plat.unused (p : Params) : Plat where
  prog := List.replicate p.nblocks .notLoaded
  slotClaimed := List.replicate p.nblocks (List.replicate p.nslots false)
  chanClaimed := List.replicate p.nchan false

/-- The agents of 00_scope.md R14. -/
inductive Agent where
  | host
  | channel
  | engine
  | time
  deriving DecidableEq, Repr

/-- The state. The first eighteen fields are the spec's; `port`, `sched`, `turn` and `draws` are the model's own. -/
structure State where
  /-- `CFG`, immutable (R21). -/
  cfg : Cfg
  /-- The platform parameters, immutable (00_scope.md R6, R15). -/
  par : Params
  /-- `PB`, the pixel buffer (R22). -/
  pb : List Pixel
  /-- `BRI`, brightness (R23). -/
  bri : Byte
  /-- `GEN`, the gamma-enabled flag (R24). -/
  gen : Bool
  /-- `GT`, the gamma table (R25). -/
  gt : Vector Byte 256
  /-- `ST` (R27). -/
  st : EngineState
  /-- `SLOT`, the execution slot held: `None` or `Some(s)` (R28). -/
  slot : Option Nat
  /-- `CH` (R29). -/
  ch : Channel
  /-- `SB`, the staging buffer (R30). -/
  sb : List Word32
  /-- `XFER` (R31). -/
  xfer : Xfer
  /-- `FIFO`, head first (R32). -/
  fifo : List Word32
  /-- `HOST` (R33). -/
  host : Phase
  /-- `TE` (R40). -/
  te : TimingEngine
  /-- `RESP`, the response register (R35). -/
  resp : Word32
  /-- `WIRE`, oldest event first (R34). -/
  wire : List Event
  /-- `FAULT`, the sticky fault record (R36). -/
  fault : Option Fault
  /-- `PLAT` (R37 to R39). -/
  plat : Plat
  /-- The command words the host context has still to send, next first: "what it sends is the program, a parameter of the run"
  (44_engine_agents.md R202; DESIGN CHOICE, log entry 1). -/
  port : List Cmd
  /-- Which agents move next, first first (R202; DESIGN CHOICE, log entry 2). -/
  sched : List Agent
  /-- How many steps have been taken; the argument of the free choice of an agent (log entry 2). -/
  turn : Nat
  /-- How many draws BEGIN has made; the argument of its free values (log entry 4). Several instances share one count, that of
  `System`. -/
  draws : Nat
  deriving DecidableEq, Repr

/-- `GT[i] = i` (R25). -/
def identityGamma : Vector Byte 256 := Vector.ofFn (fun i => BitVec.ofNat 8 i.val)

/-- `XFER` at reset (R31); its fixed configuration is written by BEGIN and holds nothing before (log entry 7). -/
def Xfer.reset : Xfer := ⟨false, 0, 0, ⟨false, false, false, 0, false⟩⟩

/-- `TE` at reset: unspecified (R40, R43); these values are a DESIGN CHOICE, log entry 7. -/
def TimingEngine.reset : TimingEngine := ⟨0, 0, .w24⟩

/-- The state after construction (R43), for the construction parameters, the platform, the launch value of `PLAT`, and what the
pixel buffer, the staging buffer and `TE` happen to hold. -/
def State.constructed (cfg : Cfg) (par : Params) (plat : Plat) (pb : List Pixel) (sb : List Word32) (te : TimingEngine) :
    State where
  cfg := cfg
  par := par
  pb := pb
  bri := 255
  gen := false
  gt := identityGamma
  st := .uninitialized
  slot := none
  ch := .unavailable
  sb := sb
  xfer := Xfer.reset
  fifo := []
  host := .idle
  te := te
  resp := 0
  wire := []
  fault := none
  plat := plat
  port := []
  sched := []
  turn := 0
  draws := 0

/-- Whether the arguments of construction are legal: a legal configuration (R21), platform value and buffers of `CFG.N`
elements. -/
def legalConstruction (cfg : Cfg) (par : Params) (plat : Plat) (pb : List Pixel) (sb : List Word32) : Bool :=
  par.wf && cfg.wf par && plat.wf par && decide (pb.length = cfg.n) && decide (sb.length = cfg.n)

/-- `construct` (70_reset_and_hazards.md R260): an illegal configuration is refused, "the instance cannot be constructed"
(93_implementation_defined.md U13). -/
def State.construct (cfg : Cfg) (par : Params) (plat : Plat) (pb : List Pixel) (sb : List Word32) (te : TimingEngine) :
    Option State :=
  if legalConstruction cfg par plat pb sb then some (State.constructed cfg par plat pb sb te) else none

/-- The construction parameters of `State.reset` (DESIGN CHOICE, log entry 6): program P1 of 95_test_vectors.md. -/
def resetCfg : Cfg := ⟨2, 3, .rgb, 800000, 0, -1⟩

/-- The platform of `State.reset` (log entry 6): the common platform of 95_test_vectors.md with one transfer channel. -/
def resetParams : Params := ⟨4, 1, 4, 1, [true], 80, Config.defaultGamma⟩

/-- The machine right after reset: `State.constructed` at the parameters of log entry 6, with the buffers at zero
(log entry 7). -/
def State.reset : State :=
  State.constructed resetCfg resetParams (Plat.unused resetParams) (List.replicate 3 Pixel.off) (List.replicate 3 0)
    TimingEngine.reset

end Sys2Proof.Machine
end

