-- ==== Sys2Proof/Machine/Ops.lean ====
section
/-! DEFINITION. The named operations over the state: the outcomes of 00_scope.md R10 (`respond`, `raise`, `draw`), the element
accesses of R9 and 20_memory.md R60, the queue, the wire log, the transfer channel's registers and the platform. -/

namespace Sys2Proof.Machine

/-- What a command answers. -/
abbrev Result := Host.Outcome State Fault Refusal

/-! ### Outcomes (00_scope.md R10) -/

/-- `respond v`: `RESP <- v` and the host sequencer returns to `Idle`. -/
def State.respond (s : State) (v : Word32) : State := { s with resp := v, host := .idle }

/-- `FAULT <- f`. -/
def State.withFault (s : State) (f : Fault) : State := { s with fault := some f }

/-- `raise f` (R10, 60_exceptions.md R231): the one way a fault is taken. The fault is recorded, nothing else changes, no
response is written; `step` then gives the state no successor (DEDUCED; log entry 8). -/
def raise (f : Fault) (s : State) : Result := .next (s.withFault f)

/-- Completion of a command that does not block: `respond v` and the step ends. -/
def complete (v : Word32) (s : State) : Result := .next (s.respond v)

/-- `HOST <- phase`. -/
def State.setPhase (s : State) (p : Phase) : State := { s with host := p }

/-- `ST <- e`. -/
def State.setEngine (s : State) (e : EngineState) : State := { s with st := e }

/-! ### The buffers (20_memory.md R60): whole elements, by index -/

/-- `PB[i]`, when there is such an element. -/
def State.readPB (s : State) (i : Nat) : Option Pixel := s.pb[i]?

/-- `SB[i]`, when there is such an element. -/
def State.readSB (s : State) (i : Nat) : Option Word32 := s.sb[i]?

/-- `GT[v]`: every 8-bit value indexes the table. -/
def State.readGT (s : State) (v : Byte) : Byte := s.gt[v.toNat]'v.isLt

/-- `for i in 0 .. CFG.N-1: PB[i] <- p`. -/
def State.fillPB (s : State) (p : Pixel) : State := { s with pb := List.replicate s.cfg.n p }

/-- `PB[i] <- p`, the four channels together (R63). -/
def State.writePB (s : State) (i : Nat) (p : Pixel) : State := { s with pb := s.pb.set i p }

/-- All of `SB` at once. -/
def State.writeSB (s : State) (ws : List Word32) : State := { s with sb := ws }

/-- The storage form, the place a canonical memory form has here: `PB` and `SB` hold exactly the elements `0 .. CFG.N-1`, each
once and in index order, and the queue holds no more words than its depth (R60, 10_state.md R22, R30, R32). -/
def Memory.wf (s : State) : Bool :=
  decide (s.pb.length = s.cfg.n) && decide (s.sb.length = s.cfg.n) && decide (s.fifo.length ≤ s.par.fifoDepth)

/-! ### The colour pipeline's registers -/

/-- `BRI <- b`. -/
def State.setBri (s : State) (b : Byte) : State := { s with bri := b }

/-- `GEN <- on`, and all 256 entries of `GT` with it (41_color_pipeline.md R121). -/
def State.setGamma (s : State) (on : Bool) : State :=
  { s with gen := on, gt := if on then s.par.gammaCurve else identityGamma }

/-! ### The word queue and the wire log -/

/-- `FIFO.push(w)`: at the tail. -/
def State.pushFifo (s : State) (w : Word32) : State := { s with fifo := s.fifo ++ [w] }

/-- The queue set to `q`. -/
def State.setFifo (s : State) (q : List Word32) : State := { s with fifo := q }

/-- `FIFO.pop()`: the head and the state without it. -/
def State.popFifo (s : State) : Option (Word32 × State) :=
  match s.fifo with
  | [] => none
  | w :: q => some (w, s.setFifo q)

/-- `WIRE.append(e)`. -/
def State.logWire (s : State) (e : Event) : State := { s with wire := s.wire ++ [e] }

/-! ### The transfer channel's registers (60_exceptions.md R247) -/

/-- `XFER <- x`. -/
def State.setXfer (s : State) (x : Xfer) : State := { s with xfer := x }

/-- `start(sourcePointer = SB[0], wordCount = N)`. -/
def State.startXfer (s : State) : State :=
  s.setXfer { s.xfer with active := true, rptr := 0, rem := BitVec.ofNat 24 s.cfg.n }

/-- `abort`: `ACTIVE`, `RPTR` and `REM` to 0. -/
def State.abortXfer (s : State) : State := s.setXfer { s.xfer with active := false, rptr := 0, rem := 0 }

/-- `configure(destination=FIFO, dataRequest=signal, wordSize=32-bit, sourceIncrement=true, destIncrement=false)`. -/
def beginXferConf : XferConf := ⟨true, false, true, 32, true⟩

/-! ### Draws (00_scope.md R10, 43_engine_commands.md R162) -/

/-- `draw` of an element of the non-empty set `x :: xs` by the free number `k`. -/
def draw (k x : Nat) (xs : List Nat) : Nat := (x :: xs).getD (k % (xs.length + 1)) x

/-! ### The platform (10_state.md R37 to R39) -/

/-- `PLAT.PROG[blk]`. -/
def Plat.program (x : Plat) (blk : Nat) : Program := x.prog.getD blk .notLoaded

/-- `PLAT.SLOT_CLAIMED[blk][k]`. -/
def Plat.slotBit (x : Plat) (blk k : Nat) : Bool := (x.slotClaimed.getD blk []).getD k false

/-- `PLAT.CHAN_CLAIMED[c]`. -/
def Plat.chanBit (x : Plat) (c : Nat) : Bool := x.chanClaimed.getD c false

/-- `PLAT.PROG[blk] <- Loaded(off)`. -/
def Plat.load (x : Plat) (blk off : Nat) : Plat := { x with prog := x.prog.set blk (.loaded off) }

/-- `PLAT.SLOT_CLAIMED[blk][k] <- b`. -/
def Plat.setSlot (x : Plat) (blk k : Nat) (b : Bool) : Plat :=
  { x with slotClaimed := x.slotClaimed.set blk ((x.slotClaimed.getD blk []).set k b) }

/-- `PLAT.CHAN_CLAIMED[c] <- b`. -/
def Plat.setChan (x : Plat) (c : Nat) (b : Bool) : Plat := { x with chanClaimed := x.chanClaimed.set c b }

/-- `{ k | 0 <= k < NSLOTS and PLAT.SLOT_CLAIMED[blk][k] = 0 }`, in rising order. -/
def Plat.freeSlots (x : Plat) (p : Params) (blk : Nat) : List Nat :=
  (List.range p.nslots).filter (fun k => !x.slotBit blk k)

/-- `{ c | 0 <= c < NCHAN and PLAT.CHAN_CLAIMED[c] = 0 }`, in rising order. -/
def Plat.freeChans (x : Plat) (p : Params) : List Nat := (List.range p.nchan).filter (fun c => !x.chanBit c)

/-- `PLAT` set to `x`. -/
def State.setPlat (s : State) (x : Plat) : State := { s with plat := x }

/-- The count of draws set to `d`. -/
def State.setDraws (s : State) (d : Nat) : State := { s with draws := d }

/-- One more draw has been made. -/
def State.countDraw (s : State) : State := { s with draws := s.draws + 1 }

/-! ### The interleaving and the command port (44_engine_agents.md R202, log entries 1 to 3) -/

/-- The agent a free choice stands for. -/
def Agent.ofChoice (c : BitVec 2) : Agent :=
  if c = 0 then .host else if c = 1 then .channel else if c = 2 then .engine else .time

/-- The agent that moves next: the schedule's first, or, where the schedule is empty, a free choice. -/
def State.nextAgent (s : State) : Agent :=
  match s.sched with
  | [] => Agent.ofChoice (Config.freeAgent s.turn)
  | a :: _ => a

/-- A turn is taken from the schedule. -/
def State.takeTurn (s : State) : State := { s with sched := s.sched.tail, turn := s.turn + 1 }

/-- The program still to be sent becomes `cws`. -/
def State.setPort (s : State) (cws : List Cmd) : State := { s with port := cws }

/-- The word `cw` is what the host sends next, the host moves next, and the port is ready for it (30_encoding.md R80). -/
def State.placeCommand (s : State) (cw : Cmd) : State :=
  { s with port := cw :: s.port, sched := .host :: s.sched, host := .idle, fault := none }

end Sys2Proof.Machine
end

