-- ==== Sys2Proof/Decode.lean ====
section
/-! DEFINITION. The decoder of 30_encoding.md R87, total on all `2^64` words, and the encoder, both over the opcode map of R85. -/

namespace Sys2Proof

/-- The fields of a command word: `OP = CW[63:56]`, `IDX = CW[55:32]`, `DATA = CW[31:0]` and the bytes of `DATA` (R81). -/
def Fields.split (cw : Cmd) : Fields where
  op := cw.extractLsb' 56 8
  idx := cw.extractLsb' 32 24
  r := cw.extractLsb' 24 8
  g := cw.extractLsb' 16 8
  b := cw.extractLsb' 8 8
  w := cw.extractLsb' 0 8

/-- The command word of its fields, `OP` in the most significant place (R81). -/
def Fields.join (x : Fields) : Cmd := x.op ++ x.idx ++ x.r ++ x.g ++ x.b ++ x.w

/-- One row of the opcode map (R85); `pattern` is its column `match`. -/
structure Row where
  mnemonic : Mnemonic
  op : Byte
  pattern : Cmd
  mask : Cmd
  deriving DecidableEq, Repr

/-- The opcode map of R85. -/
def opcodeTable : List Row := [
  ⟨.setallRgb, 0x01, 0x0100000000000000, 0xFFFFFFFF000000FF⟩,
  ⟨.setallRgbw, 0x02, 0x0200000000000000, 0xFFFFFFFF00000000⟩,
  ⟨.setpixelRgb, 0x03, 0x0300000000000000, 0xFF000000000000FF⟩,
  ⟨.setpixelRgbw, 0x04, 0x0400000000000000, 0xFF00000000000000⟩,
  ⟨.clear, 0x05, 0x0500000000000000, 0xFFFFFFFFFFFFFFFF⟩,
  ⟨.setbrightness, 0x06, 0x0600000000000000, 0xFFFFFFFFFFFFFF00⟩,
  ⟨.enablegamma, 0x07, 0x0700000000000000, 0xFFFFFFFFFFFFFFFE⟩,
  ⟨.beginCmd, 0x08, 0x0800000000000000, 0xFFFFFFFFFFFFFFFF⟩,
  ⟨.showCmd, 0x09, 0x0900000000000000, 0xFFFFFFFFFFFFFFFF⟩,
  ⟨.showasync, 0x0A, 0x0A00000000000000, 0xFFFFFFFFFFFFFFFF⟩,
  ⟨.busy, 0x0B, 0x0B00000000000000, 0xFFFFFFFFFFFFFFFF⟩,
  ⟨.wait, 0x0C, 0x0C00000000000000, 0xFFFFFFFFFFFFFFFF⟩,
  ⟨.endCmd, 0x0D, 0x0D00000000000000, 0xFFFFFFFFFFFFFFFF⟩,
  ⟨.size, 0x0E, 0x0E00000000000000, 0xFFFFFFFFFFFFFFFF⟩]

/-- A word is the command of a row exactly when `(CW & mask) = match` (R85). -/
def Row.covers (row : Row) (cw : Cmd) : Bool := (cw &&& row.mask) == row.pattern

/-- Why a word is reserved (R86). -/
inductive Reserved where
  /-- `OP` is 0x00 or 0x0F to 0xFF: no row has it. -/
  | opcode (op : Byte)
  /-- The opcode's row does not cover the word: a field its format does not use is not zero. -/
  | unusedField (m : Mnemonic)
  deriving DecidableEq, Repr

/-- The operands of a command, by its format (R81, R83): no operand is shifted, scaled or extended. -/
def Mnemonic.operands (x : Fields) : Mnemonic → Instr
  | .setallRgb => .setallRgb x.r x.g x.b
  | .setallRgbw => .setallRgbw x.r x.g x.b x.w
  | .setpixelRgb => .setpixelRgb x.idx x.r x.g x.b
  | .setpixelRgbw => .setpixelRgbw x.idx x.r x.g x.b x.w
  | .clear => .clear
  | .setbrightness => .setbrightness x.w
  | .enablegamma => .enablegamma (x.w.getLsbD 0)
  | .beginCmd => .beginCmd
  | .showCmd => .showCmd
  | .showasync => .showasync
  | .busy => .busy
  | .wait => .wait
  | .endCmd => .endCmd
  | .size => .size

/-- `decode(CW)` (R87): the row with the word's opcode, its match and mask, then the operands. -/
def decode (cw : Cmd) : Except Reserved Instr :=
  match opcodeTable.find? (fun row => row.op == (Fields.split cw).op) with
  | none => .error (.opcode (Fields.split cw).op)
  | some row =>
    if row.covers cw then .ok (row.mnemonic.operands (Fields.split cw))
    else .error (.unusedField row.mnemonic)

/-- The opcode of a mnemonic, column `OP` of R85. -/
def Mnemonic.opcode : Mnemonic → Byte
  | .setallRgb => 0x01
  | .setallRgbw => 0x02
  | .setpixelRgb => 0x03
  | .setpixelRgbw => 0x04
  | .clear => 0x05
  | .setbrightness => 0x06
  | .enablegamma => 0x07
  | .beginCmd => 0x08
  | .showCmd => 0x09
  | .showasync => 0x0A
  | .busy => 0x0B
  | .wait => 0x0C
  | .endCmd => 0x0D
  | .size => 0x0E

/-- The fields a command is sent with: its operands where its format puts them and zero elsewhere (R82). -/
def Instr.fields : Instr → Fields
  | .setallRgb r g b => ⟨Mnemonic.setallRgb.opcode, 0, r, g, b, 0⟩
  | .setallRgbw r g b w => ⟨Mnemonic.setallRgbw.opcode, 0, r, g, b, w⟩
  | .setpixelRgb index r g b => ⟨Mnemonic.setpixelRgb.opcode, index, r, g, b, 0⟩
  | .setpixelRgbw index r g b w => ⟨Mnemonic.setpixelRgbw.opcode, index, r, g, b, w⟩
  | .clear => ⟨Mnemonic.clear.opcode, 0, 0, 0, 0, 0⟩
  | .setbrightness b => ⟨Mnemonic.setbrightness.opcode, 0, 0, 0, 0, b⟩
  | .enablegamma on => ⟨Mnemonic.enablegamma.opcode, 0, 0, 0, 0, if on then 1 else 0⟩
  | .beginCmd => ⟨Mnemonic.beginCmd.opcode, 0, 0, 0, 0, 0⟩
  | .showCmd => ⟨Mnemonic.showCmd.opcode, 0, 0, 0, 0, 0⟩
  | .showasync => ⟨Mnemonic.showasync.opcode, 0, 0, 0, 0, 0⟩
  | .busy => ⟨Mnemonic.busy.opcode, 0, 0, 0, 0, 0⟩
  | .wait => ⟨Mnemonic.wait.opcode, 0, 0, 0, 0, 0⟩
  | .endCmd => ⟨Mnemonic.endCmd.opcode, 0, 0, 0, 0, 0⟩
  | .size => ⟨Mnemonic.size.opcode, 0, 0, 0, 0, 0⟩

/-- The command word of a command (R81, R82, R85). -/
def encode (i : Instr) : Cmd := i.fields.join

/-- A command is well formed when the word it is sent with keeps its format's unused fields zero (R82). Operands carry their
widths in their types, so every command is (Laws/PerInstr.lean). -/
def Instr.wf (i : Instr) : Bool := i.mnemonic.format.unusedZero i.fields

/-- The host's entry: the command word whose bits are `w`, the bits from `nbits` on being zero. A command is one 64-bit word
with no byte order of its own (R81, 20_memory.md R61), so the word is `w` itself. -/
def decodeTableWord (nbits w : Nat) : Option Instr :=
  match decode (BitVec.ofNat 64 (w % 2 ^ nbits)) with
  | .ok i => some i
  | .error _ => none

end Sys2Proof
end

