-- ==== Sys2Proof/Machine/Flags.lean ====
section
/-! DEFINITION. The four single-bit signals of 10_state.md R41. They are derived from state and none is stored: PWS has no
condition codes. -/

namespace Sys2Proof.Machine

/-- `BUSY`: a channel is held and its transfer is active. -/
def State.busyFlag (s : State) : Bool :=
  match s.ch with
  | .available _ => s.xfer.active
  | .unavailable => false

/-- Whether the queue has room for another word, `|FIFO| < FIFO_DEPTH`. -/
def State.fifoRoom (s : State) : Bool := decide (s.fifo.length < s.par.fifoDepth)

/-- `DREQ`, the data-request signal: a slot is held and the queue has room (44_engine_agents.md R197). -/
def State.dreqFlag (s : State) : Bool := s.slot.isSome && s.fifoRoom

/-- `FIFO_EMPTY`. -/
def State.fifoEmpty (s : State) : Bool := s.fifo.isEmpty

/-- `CMD_READY`: the command port accepts a word (30_encoding.md R80). -/
def State.cmdReady (s : State) : Bool := s.host == .idle && s.fault == none

end Sys2Proof.Machine
end

