-- ==== Sys2Proof/Machine/Agents.lean ====
section
/-! DEFINITION. The steps of 44_engine_agents.md that are not the acceptance of a command. Each answers the next state where its
`pre:` holds and `none` where it is not enabled; `FAULT = None`, which every `pre:` names, is tested once, by `step`. -/

namespace Sys2Proof.Machine

/-- The last part of `XferMove`: the word is queued, the source pointer advances, the count goes down, and the move that takes
it to 0 ends the transfer in the same step (R190, R191). -/
def State.moveWord (s : State) (w : Word32) : State :=
  let t := (s.pushFifo w).setXfer { s.xfer with rptr := s.xfer.rptr + 1, rem := s.xfer.rem - 1 }
  if t.xfer.rem = 0 then (t.setXfer { t.xfer with active := false }).setEngine .ready else t

/-- `XferMove` (R190), the transfer channel's step: one word from the staging buffer to the queue, while the queue has room. An
index outside the staging buffer, which no reachable state has (10_state.md R31), moves nothing (DEDUCED; log entry 10). -/
def State.xferMove (s : State) : Option State :=
  if s.xfer.active && s.fifoRoom then (s.readSB s.xfer.rptr.toNat).map s.moveWord else none

/-- `WaitXferDone` (R192): the host goes on once no channel is held or the channel is idle. -/
def State.waitXferDone (s : State) : Option State :=
  if s.host = .waitXfer ∧ (s.ch = .unavailable ∨ s.xfer.active = false) then some (s.setPhase .latchWait) else none

/-- The last part of `PushWord`: the word `SB[i]` is queued; the next index, or the end of the data phase (R193). -/
def State.pushed (s : State) (i : Idx) (k : AfterPush) (w : Word32) : State :=
  let t := s.pushFifo w
  if i.toNat + 1 < t.cfg.n then t.setPhase (.pushing (i + 1) k)
  else
    match k with
    | .thenLatch => (t.setEngine .ready).setPhase .latchWait
    | .thenReturn => (t.setEngine .ready).respond 0

/-- `PushWord` (R193), the blocking fallback: one word a step, while the queue has room. -/
def State.pushWord (s : State) : Option State :=
  match s.host with
  | .pushing i k => if s.fifoRoom then (s.readSB i.toNat).map (s.pushed i k) else none
  | .idle => none
  | .waitXfer => none
  | .latchWait => none

/-- `LatchDone` (R194): the reset-latch interval has passed with the queue empty (DESIGN CHOICE of the spec, D19; log entry 12). -/
def State.latchDone (s : State) : Option State :=
  if s.host = .latchWait ∧ s.fifo = [] then some ((s.logWire .latch).respond 0) else none

/-- `w[31 : 32 - n]`, the top `n` bits of a queue word (R195). -/
def topBits (w : Word32) (n : Width) : Word32 := w >>> (32 - n.bits)

/-- `ShiftWord` (R195), the timing engine's step: the head of the queue goes onto the wire, its top `TE.WIDTH` bits. -/
def State.shiftWord (s : State) : Option State :=
  match s.slot with
  | none => none
  | some _ => s.popFifo.map (fun (w, t) => t.logWire (.word (topBits w t.te.width) t.te.width))

/-- `IdleGap` (R200): between frames a latch interval passes; no hardware state changes. There is none inside a frame (R201;
DESIGN CHOICE of the spec, D20; log entry 13). -/
def State.idleGap (s : State) : Option State :=
  if s.slot.isSome && s.host == .idle && !s.xfer.active && s.fifo.isEmpty then some (s.logWire .latch) else none

/-- The step of a held host (R192 to R194), by its phase; an idle host has none. -/
def State.heldStep (s : State) : Option State :=
  match s.host with
  | .idle => none
  | .pushing _ _ => s.pushWord
  | .waitXfer => s.waitXferDone
  | .latchWait => s.latchDone

end Sys2Proof.Machine
end

