-- ==== Sys2Proof/Machine/Operands.lean ====
section
/-! DEFINITION. Operand assembly (30_encoding.md R81, R83, R84): every form an operand takes on its way into a command. -/

namespace Sys2Proof.Machine

/-- An RGB-typed colour is stored "with the W channel at 0" (R84). -/
def rgbPixel (r g b : Byte) : Pixel := ⟨r, g, b, 0⟩

/-- An RGBW-typed colour is stored as given, on either wire format (R84, 40_buffer_ops.md R108). -/
def rgbwPixel (r g b w : Byte) : Pixel := ⟨r, g, b, w⟩

/-- `index = zext_32(IDX)` (R83). -/
def zextIndex (idx : Idx) : Word32 := idx.zeroExtend 32

/-- The range test of SETPIXEL: `index < CFG.N`, unsigned (R83, 20_memory.md R62). -/
def State.inRange (s : State) (index : Word32) : Bool := decide (index.toNat < s.cfg.n)

/-- `zext_32(CFG.N)`, the response of SIZE (40_buffer_ops.md R105). -/
def State.sizeWord (s : State) : Word32 := BitVec.ofNat 32 s.cfg.n

/-- A condition as a response: 1 or 0 (R88). -/
def boolWord (b : Bool) : Word32 := if b then 1 else 0

end Sys2Proof.Machine
end

