-- ==== Sys2Proof/Machine/BufferOps.lean ====
section
/-! DEFINITION. The pixel-buffer commands (40_buffer_ops.md). The line `pre: HOST = Idle` of every command is the acceptance
condition `CMD_READY` of 30_encoding.md R80, tested once by the host's turn (Machine/Turn.lean; DEDUCED, log entry 15). -/

namespace Sys2Proof.Machine

/-- The common first line of the painting commands: a transfer in flight makes the command a MisuseHazard (R106,
60_exceptions.md R234), whether or not an index is in range (R236). -/
def whileNoTransfer (op : Mnemonic) (k : State → Result) (s : State) : Result :=
  if s.xfer.active then raise (.misuseHazard op) s else k s

/-- `PB[index] <- p` when the index is in range, and no effect when it is not: "OutOfRange ... silently ignored". -/
def State.paintPixel (s : State) (index : Word32) (p : Pixel) : State :=
  if s.inRange index then s.writePB index.toNat p else s

/-- SETALL_RGB `r, g, b` (R100). -/
def execSetallRgb (r g b : Byte) (s : State) : Result :=
  whileNoTransfer .setallRgb (fun s => complete 0 (s.fillPB (rgbPixel r g b))) s

/-- SETALL_RGBW `r, g, b, w` (R101). -/
def execSetallRgbw (r g b w : Byte) (s : State) : Result :=
  whileNoTransfer .setallRgbw (fun s => complete 0 (s.fillPB (rgbwPixel r g b w))) s

/-- SETPIXEL_RGB `index, r, g, b` (R102). -/
def execSetpixelRgb (index : Idx) (r g b : Byte) (s : State) : Result :=
  whileNoTransfer .setpixelRgb (fun s => complete 0 (s.paintPixel (zextIndex index) (rgbPixel r g b))) s

/-- SETPIXEL_RGBW `index, r, g, b, w` (R103). -/
def execSetpixelRgbw (index : Idx) (r g b w : Byte) (s : State) : Result :=
  whileNoTransfer .setpixelRgbw (fun s => complete 0 (s.paintPixel (zextIndex index) (rgbwPixel r g b w))) s

/-- CLEAR (R104). -/
def execClear (s : State) : Result := whileNoTransfer .clear (fun s => complete 0 (s.fillPB Pixel.off)) s

/-- SIZE (R105): allowed in every state. -/
def execSize (s : State) : Result := complete s.sizeWord s

end Sys2Proof.Machine
end

