-- ==== Sys2Proof/Machine/ColorPipeline.lean ====
section
/-! DEFINITION. The colour pipeline (41_color_pipeline.md): the per-channel transform and the commands SETBRIGHTNESS and
ENABLEGAMMA. Neither command tests `XFER.ACTIVE` (43_engine_commands.md R166, R175). -/

namespace Sys2Proof.Machine

/-- `scale(g, b) = (g * b + 127) // 255` (R123), computed exactly and then narrowed; the quotient is at most 255. -/
def scale (g b : Byte) : Byte := BitVec.ofNat 8 ((g.toNat * b.toNat + 127) / 255)

/-- `apply(v)` (R122): gamma first, if enabled, then brightness. It writes nothing. -/
def State.apply (s : State) (v : Byte) : Byte := scale (if s.gen then s.readGT v else v) s.bri

/-- SETBRIGHTNESS `b` (R120). -/
def execSetbrightness (b : Byte) (s : State) : Result := complete 0 (s.setBri b)

/-- ENABLEGAMMA `on` (R121). -/
def execEnablegamma (on : Bool) (s : State) : Result := complete 0 (s.setGamma on)

end Sys2Proof.Machine
end

