-- ==== Sys2Proof/Machine/FrameEncoder.lean ====
section
/-! DEFINITION. The frame encoder (42_frame_encoder.md), the first part of SHOW and SHOWASYNC. -/

namespace Sys2Proof.Machine

/-- `pack24(p)` (R141): G, R, B as a 24-bit value, then shifted up by 8 once; `p.w` is not read. -/
def State.pack24 (s : State) (p : Pixel) : Word32 :=
  let r := s.apply p.r
  let g := s.apply p.g
  let b := s.apply p.b
  let v24 : BitVec 24 := (g.zeroExtend 24 <<< 16) ||| (r.zeroExtend 24 <<< 8) ||| b.zeroExtend 24
  v24.zeroExtend 32 <<< 8

/-- `pack32(p)` (R142): G, R, B, W from the top byte down; no shift of the whole. -/
def State.pack32 (s : State) (p : Pixel) : Word32 :=
  let r := s.apply p.r
  let g := s.apply p.g
  let b := s.apply p.b
  let w := s.apply p.w
  (g.zeroExtend 32 <<< 24) ||| (r.zeroExtend 32 <<< 16) ||| (b.zeroExtend 32 <<< 8) ||| w.zeroExtend 32

/-- The packing of the instance's wire format (R140). -/
def State.packPixel (s : State) (p : Pixel) : Word32 :=
  match s.cfg.fmt with
  | .rgb => s.pack24 p
  | .rgbw => s.pack32 p

/-- The words of the frame, one per pixel and in the buffer's order. -/
def State.frameWords (s : State) : List Word32 := s.pb.map s.packPixel

/-- `encode_frame` (R143): every element of `SB` is rewritten and nothing else changes. -/
def State.encodeFrame (s : State) : State := s.writeSB s.frameWords

end Sys2Proof.Machine
end

