-- ==== Sys2Proof/Machine/EngineCommands.lean ====
section
/-! DEFINITION. The transmission-engine commands (43_engine_commands.md). Each is the one step in which the command word is
accepted; SHOW, WAIT and SHOWASYNC without a channel leave `HOST` in a phase that Machine/Agents.lean carries on. -/

namespace Sys2Proof.Machine

/-! ### BEGIN (R160), its five steps -/

/-- Step 1: the shared timing program, loaded at most once for each block; none where it cannot be loaded. -/
def State.loadProgram (s : State) : Option State :=
  match s.plat.program s.cfg.block with
  | .loaded _ => some s
  | .notLoaded =>
    if s.par.progFits.getD s.cfg.block false then
      some (s.setPlat (s.plat.load s.cfg.block (Config.freeOffset s.draws))).countDraw
    else none

/-- The slot `k` of the instance's block is marked claimed and held. -/
def State.holdSlot (s : State) (k : Nat) : State :=
  { s with slot := some k, plat := s.plat.setSlot s.cfg.block k true }

/-- Step 2: with `SLOT_REQ = -1` a draw from the free slots of the block, none where there is no free one; else the slot
requested, "used as given, no availability test". -/
def State.claimSlot (s : State) : Option State :=
  if s.cfg.slotReq = -1 then
    match s.plat.freeSlots s.par s.cfg.block with
    | [] => none
    | k :: ks => some (s.holdSlot (draw (Config.freeSlot s.draws) k ks)).countDraw
  else some (s.holdSlot s.cfg.slotReq.toNat)

/-- Step 3: the slot is configured for pin, bit rate and word width, with an empty queue. -/
def State.configureSlot (s : State) : State :=
  { s with te := ⟨s.cfg.pin, s.cfg.rateHz, s.cfg.width⟩, fifo := [] }

/-- The channel `c` is marked claimed, held and configured (10_state.md R31). -/
def State.holdChannel (s : State) (c : Nat) : State :=
  { s with ch := .available c, plat := s.plat.setChan c true, xfer := ⟨false, 0, 0, beginXferConf⟩ }

/-- Step 4: the optional transfer channel, a draw from the free ones; without a free one the instance goes on without. -/
def State.acquireChannel (s : State) : State :=
  match s.plat.freeChans s.par with
  | [] => { s with ch := .unavailable }
  | c :: cs => (s.holdChannel (draw (Config.freeChannel s.draws) c cs)).countDraw

/-- Steps 3 to 5: the slot configured, the channel, the pixel buffer cleared, and `Ready`. -/
def State.makeReady (s : State) : State := ((s.configureSlot.acquireChannel).fillPB Pixel.off).setEngine .ready

/-- BEGIN (R160). Response 0 is failure: the program test first, then the slot test, which keeps a program loaded before it
(R161). -/
def execBegin (s : State) : Result :=
  if s.st = .uninitialized then
    match s.loadProgram with
    | none => complete 0 s
    | some s1 =>
      match s1.claimSlot with
      | none => complete 0 s1
      | some s2 => complete 1 s2.makeReady
  else raise (.lifecycleViolation .beginCmd) s

/-! ### SHOW and SHOWASYNC -/

/-- The checks SHOW and SHOWASYNC share, in the order of 60_exceptions.md R236: lifecycle, then transfer in flight; then the
frame is encoded and `ST <- Transmitting`. -/
def startFrame (op : Mnemonic) (k : State → Result) (s : State) : Result :=
  if s.st = .uninitialized then raise (.lifecycleViolation op) s
  else if s.xfer.active then raise (.misuseHazard op) s
  else k (s.encodeFrame.setEngine .transmitting)

/-- SHOW (R163): the channel is started and the host held in `WaitXfer`, or the host pushes the words itself. -/
def execShow (s : State) : Result :=
  startFrame .showCmd (fun s =>
    match s.ch with
    | .available _ => .next (s.startXfer.setPhase .waitXfer)
    | .unavailable => .next (s.setPhase (.pushing 0 .thenLatch))) s

/-- SHOWASYNC (R165): the channel is started and the command completes, or the host pushes the words and then returns. -/
def execShowasync (s : State) : Result :=
  startFrame .showasync (fun s =>
    match s.ch with
    | .available _ => complete 0 s.startXfer
    | .unavailable => .next (s.setPhase (.pushing 0 .thenReturn))) s

/-! ### BUSY, WAIT and END -/

/-- BUSY (R167): the flag as a response. -/
def execBusy (s : State) : Result := complete (boolWord s.busyFlag) s

/-- WAIT (R169): nothing to wait for in `Uninitialized`, else the host is held in `WaitXfer`. -/
def execWait (s : State) : Result :=
  if s.st = .uninitialized then complete 0 s else .next (s.setPhase .waitXfer)

/-- `match CH: Available(c): PLAT.CHAN_CLAIMED[c] <- 0; CH <- Unavailable`. -/
def State.releaseChannel (s : State) : State :=
  match s.ch with
  | .available c => { s with ch := .unavailable, plat := s.plat.setChan c false }
  | .unavailable => s

/-- `match SLOT: Some(k): PLAT.SLOT_CLAIMED[CFG.BLOCK][k] <- 0; SLOT <- None`. -/
def State.releaseSlot (s : State) : State :=
  match s.slot with
  | some k => { s with slot := none, plat := s.plat.setSlot s.cfg.block k false }
  | none => s

/-- `if XFER.ACTIVE = 1 or |FIFO| > 0 then WIRE.append(Abort)` (R171, R172; log entry 19). -/
def State.logAbort (s : State) : State := if s.xfer.active || !s.fifo.isEmpty then s.logWire .abort else s

/-- END (R171): abort, empty the queue, release the channel and the slot; without effect in `Uninitialized`. -/
def execEnd (s : State) : Result :=
  if s.st = .uninitialized then complete 0 s
  else complete 0 (((s.logAbort.abortXfer.setFifo []).releaseChannel.releaseSlot).setEngine .uninitialized)

end Sys2Proof.Machine
end

