-- ==== Sys2Proof/Machine/Dispatch.lean ====
section
/-! DEFINITION. One arm for each command of 30_encoding.md R85. -/

namespace Sys2Proof.Machine

def exec (i : Instr) (s : State) : Host.Outcome State Fault Refusal :=
  match i with
  | .setallRgb r g b => Sys2Proof.Machine.execSetallRgb r g b s
  | .setallRgbw r g b w => Sys2Proof.Machine.execSetallRgbw r g b w s
  | .setpixelRgb index r g b => Sys2Proof.Machine.execSetpixelRgb index r g b s
  | .setpixelRgbw index r g b w => Sys2Proof.Machine.execSetpixelRgbw index r g b w s
  | .clear => Sys2Proof.Machine.execClear s
  | .setbrightness b => Sys2Proof.Machine.execSetbrightness b s
  | .enablegamma on => Sys2Proof.Machine.execEnablegamma on s
  | .beginCmd => Sys2Proof.Machine.execBegin s
  | .showCmd => Sys2Proof.Machine.execShow s
  | .showasync => Sys2Proof.Machine.execShowasync s
  | .busy => Sys2Proof.Machine.execBusy s
  | .wait => Sys2Proof.Machine.execWait s
  | .endCmd => Sys2Proof.Machine.execEnd s
  | .size => Sys2Proof.Machine.execSize s

end Sys2Proof.Machine
end

