-- ==== Sys2Proof/Machine/Turn.lean ====
section
/-! DEFINITION. What one agent does with its turn (44_engine_agents.md R202). A turn of an agent none of whose steps is enabled
changes nothing: "an agent none of whose steps is enabled is stuck, which is not a fault" (00_scope.md R10; log entry 2). -/

namespace Sys2Proof.Machine

/-- The acceptance of a command word (30_encoding.md R80): decode it (R87), then the checks of 60_exceptions.md R236 in their
order, the reserved word first. -/
def accept (cw : Cmd) (s : State) : Result :=
  match decode cw with
  | .ok i => exec i s
  | .error _ => raise (.illegalCommand cw) s

/-- A step that is enabled or not, as a turn. -/
def turnOf (t : Option State) (s : State) : Result := .next (t.getD s)

/-- The host's turn: a held host takes its phase's step; an idle one sends its next command word, or none. -/
def hostTurn (s : State) : Result :=
  match s.host with
  | .idle =>
    match s.port with
    | [] => .next s
    | cw :: rest => accept cw (s.setPort rest)
  | .pushing _ _ => turnOf s.heldStep s
  | .waitXfer => turnOf s.heldStep s
  | .latchWait => turnOf s.heldStep s

/-- The turn of an agent (00_scope.md R14). -/
def agentTurn (a : Agent) (s : State) : Result :=
  match a with
  | .host => hostTurn s
  | .channel => turnOf s.xferMove s
  | .engine => turnOf s.shiftWord s
  | .time => turnOf s.idleGap s

/-- One step of an unfaulted state: the next agent is taken from the schedule and has its turn. -/
def runTurn (s : State) : Result := agentTurn s.nextAgent s.takeTurn

end Sys2Proof.Machine
end

