-- ==== Sys2Proof/Machine/Step.lean ====
section
/-! DEFINITION. One step of the block (44_engine_agents.md R202). -/

namespace Sys2Proof.Machine

/-- "Every step has `FAULT = None` in its precondition": a faulted state has no successor (60_exceptions.md R231), and the step
answers the fault recorded (DEDUCED; log entry 8). -/
def step (s : State) : Host.Outcome State Fault Refusal :=
  match s.fault with
  | some f => .fault f
  | none => runTurn s

/-- `s` with the command word `w` as the next the host sends, on the next turn (DESIGN CHOICE, log entry 3). -/
def State.withFetchWord (s : State) (nbits w : Nat) : State := s.placeCommand (BitVec.ofNat 64 (w % 2 ^ nbits))

end Sys2Proof.Machine
end

