-- ==== Sys2Proof/Machine/Frames.lean ====
section
/-! DEFINITION. The reading of the wire log (44_engine_agents.md R204): `frames(WIRE)`. -/

namespace Sys2Proof.Machine

/-- A frame: its `Word` and `Abort` events, oldest first, and whether a `Latch` closed it. -/
structure Frame where
  events : List Event
  closed : Bool
  deriving DecidableEq, Repr

/-- A frame is clean if it holds no `Abort` (R204); one with an `Abort` tells nothing about the strip (43_engine_commands.md
R172). -/
def Frame.clean (f : Frame) : Bool := !f.events.contains .abort

/-- The log read on from a piece of which `piece` has been read, oldest first. Empty pieces are dropped, so that consecutive
`Latch` events are one gap. -/
def framesFrom (piece : List Event) : List Event → List Frame
  | [] => if piece.isEmpty then [] else [⟨piece, false⟩]
  | .latch :: es => if piece.isEmpty then framesFrom [] es else ⟨piece, true⟩ :: framesFrom [] es
  | .word v w :: es => framesFrom (piece ++ [.word v w]) es
  | .abort :: es => framesFrom (piece ++ [.abort]) es

/-- `frames(WIRE)`: cut at every `Latch`, the `Latch` events and the empty pieces dropped; the last piece is open if the log
does not end with `Latch`. -/
def frames (wire : List Event) : List Frame := framesFrom [] wire

end Sys2Proof.Machine
end

