-- ==== Sys2Proof/Machine/Hsv.lean ====
section
/-! DEFINITION. ColorModel's `hsv` (45_colormodel_hsv.md R220): a pure function of the host, outside the block and without an
opcode, in exact rational arithmetic. The device's own arithmetic may differ by one near an exact half (R223; DESIGN CHOICE of the spec,
log entry 9). -/

namespace Sys2Proof.Machine

/-- `x mod m` floored, for `m > 0`: `0 <= x mod m < m`, also for negative `x`. -/
def floorMod (x m : Rat) : Rat := x - m * ((x / m).floor : Int)

/-- Clamped to `[0, 1]`. -/
def clamp01 (x : Rat) : Rat := if x ≤ 0 then 0 else if 1 ≤ x then 1 else x

/-- `rnd(t) = floor(255 * t + 1/2)` as a channel. -/
def roundChannel (t : Rat) : Byte := BitVec.ofInt 8 (255 * t + 1 / 2).floor

/-- `|x|`. -/
def ratAbs (x : Rat) : Rat := if 0 ≤ x then x else -x

/-- The six sectors: chroma `c`, second component `x`. -/
def sectorChannels (k : Int) (c x : Rat) : Rat × Rat × Rat :=
  if k = 0 then (c, x, 0)
  else if k = 1 then (x, c, 0)
  else if k = 2 then (0, c, x)
  else if k = 3 then (0, x, c)
  else if k = 4 then (x, 0, c)
  else (c, 0, x)

/-- `hsv(h, s, v)`, `h` in degrees (R220). -/
def hsv (h s v : Rat) : Rgb :=
  let s1 := clamp01 s
  let v1 := clamp01 v
  let c := v1 * s1
  let hp := floorMod h 360 / 60
  let x := c * (1 - ratAbs (floorMod hp 2 - 1))
  let m := v1 - c
  let rgb := sectorChannels hp.floor c x
  ⟨roundChannel (rgb.1 + m), roundChannel (rgb.2.1 + m), roundChannel (rgb.2.2 + m)⟩

end Sys2Proof.Machine
end

