-- ==== Sys2Proof/Machine/System.lean ====
section
/-! DEFINITION. Several instances on one platform (60_exceptions.md R244; DEDUCED, log entries 5 and 17): "one host, commands
interleaved in program order, each instance's hardware agents stepping on their own, and every command step atomic on `PLAT`". -/

namespace Sys2Proof.Machine

/-- Who moves: the one host, or an agent of the hardware of instance `j`. -/
inductive Member where
  | host
  | channel (j : Nat)
  | engine (j : Nat)
  | time (j : Nat)
  deriving DecidableEq, Repr

/-- The system: the instances, the platform they share, and the model's own inputs, which are those of State with the instance
named. The count of draws is one for the whole system, so that no two draws, of one instance or of two, are the same free value
(00_scope.md R10, 43_engine_commands.md R162; log entry 4). An instance's own `plat`, `draws`, `port`, `sched` and `turn` are not
used here: the system's stand in for the first two. -/
structure System where
  insts : List State
  plat : Plat
  port : List (Nat × Cmd)
  sched : List Member
  turn : Nat
  draws : Nat
  deriving DecidableEq, Repr

/-- Instance `j` with the shared platform and the system's count of draws in place of its own. -/
def System.view (sy : System) (j : Nat) : Option State :=
  (sy.insts[j]?).map (fun s => (s.setPlat sy.plat).setDraws sy.draws)

/-- Instance `j` becomes `s`, and the shared platform and the count of draws become those `s` holds. -/
def System.write (sy : System) (j : Nat) (s : State) : System :=
  { sy with insts := sy.insts.set j s, plat := s.plat, draws := s.draws }

/-- What one agent of instance `j` does, carried to the system; an instance that does not exist does nothing. -/
def System.onInstance (sy : System) (j : Nat) (turn : State → Result) : Host.Outcome System Fault Refusal :=
  match sy.view j with
  | none => .next sy
  | some s =>
    match turn s with
    | .next t => .next (sy.write j t)
    | .fault f => .fault f
    | .refused r => .refused r

/-- The instance that holds the host in a command, if one does: the host is a single context (70_reset_and_hazards.md R269). -/
def System.heldInstance (sy : System) : Option Nat := sy.insts.findIdx? (fun s => !(s.host == .idle))

/-- The host's turn: the command in progress goes on, or the next command of the program is sent to its instance. -/
def System.hostTurn (sy : System) : Host.Outcome System Fault Refusal :=
  match sy.heldInstance with
  | some j => sy.onInstance j (fun s => turnOf s.heldStep s)
  | none =>
    match sy.port with
    | [] => .next sy
    | (j, cw) :: rest => ({ sy with port := rest } : System).onInstance j (accept cw)

/-- The member a free choice stands for. -/
def Member.ofChoice (c : BitVec 2) (j : Nat) : Member :=
  match Agent.ofChoice c with
  | .host => .host
  | .channel => .channel j
  | .engine => .engine j
  | .time => .time j

/-- Who moves next: the schedule's first, or a free choice. -/
def System.nextMember (sy : System) : Member :=
  match sy.sched with
  | [] => Member.ofChoice (Config.freeAgent sy.turn) (Config.freeMember sy.turn % sy.insts.length)
  | m :: _ => m

/-- The turn of a member. -/
def System.memberTurn (sy : System) (m : Member) : Host.Outcome System Fault Refusal :=
  match m with
  | .host => sy.hostTurn
  | .channel j => sy.onInstance j (agentTurn .channel)
  | .engine j => sy.onInstance j (agentTurn .engine)
  | .time j => sy.onInstance j (agentTurn .time)

/-- One step of the system; a fault recorded by an instance ends the run (R231). -/
def System.step (sy : System) : Host.Outcome System Fault Refusal :=
  match sy.insts.findSome? (fun s => s.fault) with
  | some f => .fault f
  | none => ({ sy with sched := sy.sched.tail, turn := sy.turn + 1 } : System).memberTurn sy.nextMember

end Sys2Proof.Machine
end

