-- ==== Sys2Proof/Safety.lean ====
section
/-! DEFINITION. What claims are stated in: a run without a fault (60_exceptions.md R231), the invariants of 10_state.md R44, the
launch premises of 70_reset_and_hazards.md R263, a fair stretch of turns (44_engine_agents.md R199), the first completion of a
command, the premise on the latch interval (R267), and what several instances hold (60_exceptions.md R244). -/

namespace Sys2Proof.Safety

open Sys2Proof.Machine

/-- No fault is recorded. -/
def Safe (s : State) : Prop := s.fault = none

/-- The invariants of every reachable state: R44 (a) to (h), with R26, R27, R28, R31, R40 and the lengths of R22, R30, R32. -/
structure StateInv (s : State) : Prop where
  /-- The configuration, the parameters and the platform value are legal (R21). -/
  legal : s.par.wf = true ∧ s.cfg.wf s.par = true ∧ s.plat.wf s.par = true
  /-- `PB` and `SB` have `CFG.N` elements and the queue is within its depth (R22, R30, R44 (g)). -/
  storage : Memory.wf s = true
  /-- R44 (a), which is R26. -/
  gamma : s.gt = if s.gen then s.par.gammaCurve else identityGamma
  /-- R44 (b), first half. -/
  slot_none : s.st = .uninitialized ↔ s.slot = none
  /-- R44 (b), second half. -/
  uninit : s.st = .uninitialized → s.ch = .unavailable ∧ s.xfer.active = false ∧ s.fifo = [] ∧ s.host = .idle
  /-- R44 (c), and the slot is one of the block's (R28). -/
  slot_held : ∀ k, s.slot = some k →
    k < s.par.nslots ∧ s.plat.slotBit s.cfg.block k = true ∧ ∃ off, s.plat.program s.cfg.block = .loaded off
  /-- R44 (d), and the channel is one of the platform's (R29). -/
  chan_held : ∀ c, s.ch = .available c → c < s.par.nchan ∧ s.plat.chanBit c = true
  /-- R44 (e). -/
  active : s.xfer.active = true → (∃ c, s.ch = .available c) ∧ 1 ≤ s.xfer.rem.toNat ∧
    s.xfer.rptr.toNat + s.xfer.rem.toNat = s.cfg.n ∧ (s.host = .idle ∨ s.host = .waitXfer)
  /-- R44 (f), and the index is below `CFG.N` (R33). -/
  pushing : ∀ i k, s.host = .pushing i k → s.ch = .unavailable ∧ s.xfer.active = false ∧ i.toNat < s.cfg.n
  /-- R27: `Transmitting` exactly while a frame is being produced. -/
  transmitting : s.st = .transmitting ↔ (s.xfer.active = true ∨ ∃ i k, s.host = .pushing i k)
  /-- R44 (h), and every word event fits its width (R34). -/
  wire_words : ∀ v w, Event.word v w ∈ s.wire → w = s.cfg.width ∧ v.toNat < 2 ^ w.bits
  /-- R40: a held slot is configured. -/
  slot_configured : s.slot ≠ none → s.te = ⟨s.cfg.pin, s.cfg.rateHz, s.cfg.width⟩
  /-- R31: a held channel has the fixed configuration. -/
  chan_configured : ∀ c, s.ch = .available c → s.xfer.conf = beginXferConf

/-- The premises R263 names at launch. -/
def Launch (s : State) : Prop :=
  s.fault = none ∧ s.host = .idle ∧ s.st = .uninitialized ∧ s.xfer.active = false ∧ s.fifo = [] ∧ s.wire = [] ∧
    s.cfg.block < s.par.nblocks

/-- The premise R263 names for a BEGIN that succeeds. -/
def BeginCanSucceed (s : State) : Prop :=
  (s.plat.program s.cfg.block ≠ .notLoaded ∨ s.par.progFits.getD s.cfg.block false = true) ∧
    (0 ≤ s.cfg.slotReq ∨ s.plat.freeSlots s.par s.cfg.block ≠ [])

/-- A log that is empty or ends with `Latch` (R203). -/
def LogClosed (wire : List Event) : Prop := wire = [] ∨ ∃ before, wire = before ++ [.latch]

/-- A stretch of turns in which the host, the transfer channel and the timing engine each have one: every hardware step that
stays enabled through it is taken in it (R199). -/
def Round (turns : List Agent) : Prop := .host ∈ turns ∧ .channel ∈ turns ∧ .engine ∈ turns

/-- After `k` steps of a run from `s` the state is `t`. -/
def After (k : Nat) (s t : State) : Prop := Sys2Proof.core.run k s = .next t

/-- A held host becomes idle for the first time with step `k` of a run from `s`: the command in progress completes, in `t`. -/
def FirstIdle (k : Nat) (s t : State) : Prop :=
  After k s t ∧ t.host = .idle ∧ ∀ j u, j < k → After j s u → u.host ≠ .idle

/-- The `Word` event the timing engine makes of a queue word (R195). -/
def wordEvent (s : State) (w : Word32) : Event := .word (topBits w s.cfg.width) s.cfg.width

/-- The word events of the frame that an encode in state `s` gives (R203). -/
def frameEvents (s : State) : List Event := s.frameWords.map (wordEvent s)

/-- The premise of R267: the latch interval covers the words still queued, the one being shifted and the strip's own latch
time, in microseconds. It is a premise on a device; no rule of the model reads it (log entry 12). The
strip's latch time is taken in whole microseconds: R267 says only "in microseconds" and gives no value and no type (DESIGN
CHOICE, log entry 20). -/
def LatchCoversDrain (p : Params) (c : Cfg) (stripLatchUs : Nat) : Prop :=
  (p.fifoDepth + 1) * c.width.bits * 1000000 + stripLatchUs * c.rateHz ≤ p.tResetUs * c.rateHz

/-- The time one word takes on the wire, in seconds (R273). -/
def wordTime (c : Cfg) : Rat := c.width.bits / c.rateHz

/-- The least time a frame's data phase takes, in seconds (R273). -/
def dataPhaseTime (c : Cfg) : Rat := c.n * wordTime c

/-- The least time SHOW takes, in seconds: the data phase and the latch interval (R273, R242). -/
def showTime (p : Params) (c : Cfg) : Rat := dataPhaseTime c + p.tResetUs / 1000000

/-- What several instances hold of one platform (R244): a held channel is claimed and held by one instance only, and the same of
an auto-claimed slot of a block. -/
structure HeldOnce (sy : System) : Prop where
  chan_claimed : ∀ (j : Nat) (s : State) (c : Nat), sy.insts[j]? = some s → s.ch = .available c → sy.plat.chanBit c = true
  chan_once : ∀ (i j : Nat) (s t : State) (c : Nat), sy.insts[i]? = some s → sy.insts[j]? = some t →
    s.ch = .available c → t.ch = .available c → i = j
  slot_claimed : ∀ (j : Nat) (s : State) (k : Nat), sy.insts[j]? = some s → s.slot = some k → sy.plat.slotBit s.cfg.block k = true
  slot_once : ∀ (i j : Nat) (s t : State) (k : Nat), sy.insts[i]? = some s → sy.insts[j]? = some t →
    s.slot = some k → t.slot = some k →
    s.cfg.block = t.cfg.block → i = j

/-- The instances fit the shared platform: its blocks, slots and channels are those of every instance's parameters, and every
instance claims its slot itself (R271 leaves a pre-claimed one to the claim's premises). -/
def Fits (sy : System) : Prop :=
  ∀ (j : Nat) (s : State), sy.insts[j]? = some s →
    s.par.wf = true ∧ s.cfg.wf s.par = true ∧ sy.plat.wf s.par = true ∧ s.cfg.slotReq = -1

end Sys2Proof.Safety
end

