-- ==== Sys2Proof/Certificates/Slice0/Obligations.lean ====
section
/-! DEFINITION. The statements for the provers. Where one speaks of `step`, of the agent that moves, of the words still to be sent
or of a run, the turn and the word taken come from the model's own inputs `port`, `sched` and `turn`, which are log entries 1
and 2 (DESIGN CHOICE) and no rule of the spec; no statement rests on a value of a free choice. -/

open Sys2Proof Sys2Proof.Machine Sys2Proof.Safety

/-! ### Encoding (30_encoding.md) -/

/-- R91: the worked encodings, with the fields of the first, and the three reserved words named there. -/
def Obligations.WorkedEncodings : Prop :=
  encode (.setpixelRgb 2 0x12 0x34 0x56) = 0x0300000212345600 ∧
  Fields.split 0x0300000212345600 = ⟨0x03, 0x000002, 0x12, 0x34, 0x56, 0x00⟩ ∧
  decode 0x0300000212345600 = .ok (.setpixelRgb 2 0x12 0x34 0x56) ∧
  decode 0x01000000FF000000 = .ok (.setallRgb 255 0 0) ∧
  decode 0x0400000010203040 = .ok (.setpixelRgbw 0 0x10 0x20 0x30 0x40) ∧
  decode 0x0600000000000080 = .ok (.setbrightness 128) ∧
  decode 0x0700000000000001 = .ok (.enablegamma true) ∧
  decode 0x0900000000000000 = .ok .showCmd ∧
  decode 0x0900000000000001 = .error (.unusedField .showCmd) ∧
  decode 0x0000000000000000 = .error (.opcode 0x00) ∧
  decode 0x0F00000000000000 = .error (.opcode 0x0F)

/-- Encode then decode is the identity on commands, with every operand at every value. -/
def Obligations.DecodeAfterEncode : Prop := ∀ i : Instr, decode (encode i) = .ok i

/-- Decode then encode is the identity on legal words: no bit of a legal word is dropped. -/
def Obligations.EncodeAfterDecode : Prop := ∀ (cw : Cmd) (i : Instr), decode cw = .ok i → encode i = cw

/-- R82: for a word with the opcode of a row, the row's match and mask cover it exactly when the fields that the row's format
does not use are zero; a word with a non-zero unused field is reserved. -/
def Obligations.MasksAgreeWithFormats : Prop :=
  ∀ row ∈ opcodeTable, ∀ cw : Cmd, (Fields.split cw).op = row.op →
    (row.covers cw = row.mnemonic.format.unusedZero (Fields.split cw)) ∧
    (row.mnemonic.format.unusedZero (Fields.split cw) = false → decode cw = .error (.unusedField row.mnemonic))

/-- R86: a word is reserved exactly when no row covers it, which is when its opcode is 0x00 or 0x0F to 0xFF or a field that its
format does not use is not zero; the rows have different opcodes and no word is covered by two; an accepted reserved word
records `IllegalCommand` and changes nothing else. -/
def Obligations.ReservedWords : Prop :=
  (∀ cw : Cmd, (∀ i, decode cw ≠ .ok i) ↔ ∀ row ∈ opcodeTable, row.covers cw = false) ∧
  (∀ cw : Cmd, (∀ i, decode cw ≠ .ok i) ↔
    ((Fields.split cw).op = 0 ∨ 0x0F ≤ (Fields.split cw).op.toNat ∨
      ∃ row ∈ opcodeTable, row.op = (Fields.split cw).op ∧ row.mnemonic.format.unusedZero (Fields.split cw) = false)) ∧
  (opcodeTable.Pairwise (fun a b => a.op ≠ b.op)) ∧
  (∀ cw : Cmd, ∀ a ∈ opcodeTable, ∀ b ∈ opcodeTable, a.covers cw = true → b.covers cw = true → a = b) ∧
  (∀ (cw : Cmd) (s : State), (∀ i, decode cw ≠ .ok i) →
    accept cw s = .next { s with fault := some (.illegalCommand cw) })

/-! ### The step -/

/-- R80: when the host moves in a ready state and the word it sends decodes to `i`, the step is `exec i` of the state with the
word and the turn taken from the model's own inputs; every field of the hardware is as it was. (The inputs are log entries 1 and
2.) -/
def Obligations.StepRunsDecodedCommand : Prop :=
  ∀ (s : State) (cw : Cmd) (rest : List Cmd) (i : Instr), s.cmdReady = true → s.nextAgent = .host → s.port = cw :: rest →
    decode cw = .ok i →
    step s = exec i { s with port := rest, sched := s.sched.tail, turn := s.turn + 1 }

/-- A command word is taken only in a step of the host from a state with `CMD_READY = 1`, one word at a time. (The inputs are
log entries 1 and 2.) -/
def Obligations.WordsTakenOnlyWhenReady : Prop :=
  ∀ s t : State, step s = .next t → t.port ≠ s.port →
    s.cmdReady = true ∧ s.nextAgent = .host ∧ ∃ cw, s.port = cw :: t.port

/-- R231, R232, R233 and R234 as a rule of the whole machine: a step that records a fault changes nothing else of the hardware;
it is the acceptance of a command word; and the fault is one of the three, under exactly its condition. (The inputs are log
entries 1 and 2.) -/
def Obligations.FaultsOnlyOnTheirConditions : Prop :=
  ∀ (s t : State) (f : Fault), s.fault = none → step s = .next t → t.fault = some f →
    s.nextAgent = .host ∧ s.host = .idle ∧
    ∃ cw rest, s.port = cw :: rest ∧
      t = { s with fault := some f, port := rest, sched := s.sched.tail, turn := s.turn + 1 } ∧
      ((f = .illegalCommand cw ∧ ∀ i, decode cw ≠ .ok i) ∨
        ∃ i, decode cw = .ok i ∧
          ((f = .lifecycleViolation i.mnemonic ∧
              ((i = .beginCmd ∧ s.st ≠ .uninitialized) ∨ ((i = .showCmd ∨ i = .showasync) ∧ s.st = .uninitialized))) ∨
            (f = .misuseHazard i.mnemonic ∧ s.xfer.active = true ∧
              i.mnemonic ∈ [Mnemonic.setallRgb, .setallRgbw, .setpixelRgb, .setpixelRgbw, .clear, .showCmd, .showasync])))

/-- A faulted state has no successor: the step answers the fault recorded, whatever else the state holds, and no step clears it.
(The inputs are log entries 1 and 2.) (That `step` answers the recorded fault is log entry 8.) -/
def Obligations.FaultedStateHasNoSuccessor : Prop :=
  (∀ (s : State) (f : Fault), s.fault = some f → step s = .fault f) ∧
  (∀ s t : State, step s = .next t → s.fault = none) ∧
  (∀ (s : State) (r : Refusal), step s ≠ .refused r)

/-- R175: the table of the commands by engine state, in the states the invariant allows while the port is ready. Performed means
that a next state is answered in which no fault is recorded. -/
def Obligations.CommandByStateTable : Prop :=
  ∀ s : State, StateInv s → s.cmdReady = true →
    (∀ i : Instr, i.mnemonic ∈ [Mnemonic.setallRgb, .setallRgbw, .setpixelRgb, .setpixelRgbw, .clear] →
      (s.st ≠ .transmitting → ∃ t, exec i s = .next t ∧ t.fault = none) ∧
      (s.st = .transmitting → exec i s = .next { s with fault := some (.misuseHazard i.mnemonic) })) ∧
    (∀ i : Instr, i.mnemonic ∈ [Mnemonic.setbrightness, .enablegamma, .size] →
      ∃ t, exec i s = .next t ∧ t.fault = none) ∧
    ((s.st = .uninitialized → ∃ t, exec .beginCmd s = .next t ∧ t.fault = none) ∧
      (s.st ≠ .uninitialized → exec .beginCmd s = .next { s with fault := some (.lifecycleViolation .beginCmd) })) ∧
    (∀ i : Instr, i = .showCmd ∨ i = .showasync →
      (s.st = .uninitialized → exec i s = .next { s with fault := some (.lifecycleViolation i.mnemonic) }) ∧
      (s.st = .ready → ∃ t, exec i s = .next t ∧ t.fault = none) ∧
      (s.st = .transmitting → exec i s = .next { s with fault := some (.misuseHazard i.mnemonic) })) ∧
    (exec .busy s = .next { s with resp := if s.st = .transmitting then 1 else 0 }) ∧
    (∀ i : Instr, i = .wait ∨ i = .endCmd →
      (s.st = .uninitialized → exec i s = .next { s with resp := 0 }) ∧
      (s.st ≠ .uninitialized → ∃ t, exec i s = .next t ∧ t.fault = none)) ∧
    (s.st = .transmitting → s.xfer.active = true)

/-! ### Pixel-buffer commands (40_buffer_ops.md) -/

/-- R100: SETALL_RGB. Its encoding; the fill of every element with `w = 0`; the one fault; the effect of `0, 0, 0` is that of
CLEAR; the example. -/
def Obligations.SetallRgbFillsWithoutWhite : Prop :=
  (∀ r g b : Byte, decode (0x01#8 ++ 0#24 ++ r ++ g ++ b ++ 0#8) = .ok (.setallRgb r g b)) ∧
  (∀ (r g b : Byte) (s : State), s.xfer.active = false →
    exec (.setallRgb r g b) s = .next { s with pb := List.replicate s.cfg.n ⟨r, g, b, 0⟩, resp := 0, host := .idle }) ∧
  (∀ (r g b : Byte) (s : State), s.xfer.active = true →
    exec (.setallRgb r g b) s = .next { s with fault := some (.misuseHazard .setallRgb) }) ∧
  (∀ s : State, s.xfer.active = false → exec (.setallRgb 0 0 0) s = exec .clear s) ∧
  (∀ s : State, s.xfer.active = false → s.cfg.n = 3 → ∃ t, accept 0x01000000FF000000 s = .next t ∧
    t.pb = [⟨255, 0, 0, 0⟩, ⟨255, 0, 0, 0⟩, ⟨255, 0, 0, 0⟩] ∧ t.resp = 0)

/-- R101: SETALL_RGBW. Its encoding; the fill of every element; the one fault; `W = 0` gives the state of SETALL_RGB; the
example. Nothing depends on the wire format (R108). -/
def Obligations.SetallRgbwFills : Prop :=
  (∀ r g b w : Byte, decode (0x02#8 ++ 0#24 ++ r ++ g ++ b ++ w) = .ok (.setallRgbw r g b w)) ∧
  (∀ (r g b w : Byte) (s : State), s.xfer.active = false →
    exec (.setallRgbw r g b w) s = .next { s with pb := List.replicate s.cfg.n ⟨r, g, b, w⟩, resp := 0, host := .idle }) ∧
  (∀ (r g b w : Byte) (s : State), s.xfer.active = true →
    exec (.setallRgbw r g b w) s = .next { s with fault := some (.misuseHazard .setallRgbw) }) ∧
  (∀ (r g b : Byte) (s : State), s.xfer.active = false → exec (.setallRgbw r g b 0) s = exec (.setallRgb r g b) s) ∧
  (∀ s : State, s.xfer.active = false → s.cfg.n = 2 → ∃ t, accept 0x0200000010203040 s = .next t ∧
    t.pb = [⟨0x10, 0x20, 0x30, 0x40⟩, ⟨0x10, 0x20, 0x30, 0x40⟩])

/-- R102: SETPIXEL_RGB, for a buffer of `CFG.N` elements. In range the one element is written with `w = 0` and every other keeps
its value; from `CFG.N` on nothing is written; the response is 0 alike; the fault comes first, in range or not. -/
def Obligations.SetpixelRgbWritesOne : Prop :=
  (∀ (index : Idx) (r g b : Byte), decode (0x03#8 ++ index ++ r ++ g ++ b ++ 0#8) = .ok (.setpixelRgb index r g b)) ∧
  (∀ (index : Idx) (r g b : Byte) (s : State), s.xfer.active = false → s.pb.length = s.cfg.n → index.toNat < s.cfg.n →
    ∃ t, exec (.setpixelRgb index r g b) s = .next t ∧ t.readPB index.toNat = some ⟨r, g, b, 0⟩ ∧
      (∀ j, j ≠ index.toNat → t.readPB j = s.readPB j) ∧ t.pb.length = s.pb.length ∧
      t = { s with pb := t.pb, resp := 0, host := .idle }) ∧
  (∀ (index : Idx) (r g b : Byte) (s : State), s.xfer.active = false → s.cfg.n ≤ index.toNat →
    exec (.setpixelRgb index r g b) s = .next { s with resp := 0, host := .idle }) ∧
  (∀ (index : Idx) (r g b : Byte) (s : State), s.xfer.active = true →
    exec (.setpixelRgb index r g b) s = .next { s with fault := some (.misuseHazard .setpixelRgb) }) ∧
  (∀ s : State, s.xfer.active = false → s.pb.length = s.cfg.n → s.cfg.n = 3 →
    (∃ t, accept 0x0300000212345600 s = .next t ∧ t.readPB 2 = some ⟨0x12, 0x34, 0x56, 0⟩ ∧
      t.readPB 0 = s.readPB 0 ∧ t.readPB 1 = s.readPB 1) ∧
    (∃ t, accept 0x0300000312345600 s = .next t ∧ t.pb = s.pb))

/-- R103: SETPIXEL_RGBW, as R102 with the white channel stored as given. -/
def Obligations.SetpixelRgbwWritesOne : Prop :=
  (∀ (index : Idx) (r g b w : Byte), decode (0x04#8 ++ index ++ r ++ g ++ b ++ w) = .ok (.setpixelRgbw index r g b w)) ∧
  (∀ (index : Idx) (r g b w : Byte) (s : State), s.xfer.active = false → s.pb.length = s.cfg.n → index.toNat < s.cfg.n →
    ∃ t, exec (.setpixelRgbw index r g b w) s = .next t ∧ t.readPB index.toNat = some ⟨r, g, b, w⟩ ∧
      (∀ j, j ≠ index.toNat → t.readPB j = s.readPB j) ∧ t.pb.length = s.pb.length ∧
      t = { s with pb := t.pb, resp := 0, host := .idle }) ∧
  (∀ (index : Idx) (r g b w : Byte) (s : State), s.xfer.active = false → s.cfg.n ≤ index.toNat →
    exec (.setpixelRgbw index r g b w) s = .next { s with resp := 0, host := .idle }) ∧
  (∀ (index : Idx) (r g b w : Byte) (s : State), s.xfer.active = true →
    exec (.setpixelRgbw index r g b w) s = .next { s with fault := some (.misuseHazard .setpixelRgbw) }) ∧
  (∀ s : State, s.xfer.active = false → s.cfg.n = 1 → s.pb.length = 1 →
    ∃ t, accept 0x0400000010203040 s = .next t ∧ t.pb = [⟨0x10, 0x20, 0x30, 0x40⟩])

/-- R104: CLEAR. Its encoding; all four channels of every element zero; the one fault; the end state is that of
`SETALL_RGBW 0, 0, 0, 0` and of `SETALL_RGB 0, 0, 0`; nothing reaches the wire; the example. -/
def Obligations.ClearTurnsEverySlotOff : Prop :=
  decode 0x0500000000000000 = .ok .clear ∧
  (∀ s : State, s.xfer.active = false →
    exec .clear s = .next { s with pb := List.replicate s.cfg.n ⟨0, 0, 0, 0⟩, resp := 0, host := .idle }) ∧
  (∀ s : State, s.xfer.active = true → exec .clear s = .next { s with fault := some (.misuseHazard .clear) }) ∧
  (∀ s : State, s.xfer.active = false →
    exec .clear s = exec (.setallRgbw 0 0 0 0) s ∧ exec .clear s = exec (.setallRgb 0 0 0) s) ∧
  (∀ s t : State, exec .clear s = .next t → t.wire = s.wire) ∧
  (∀ s : State, s.xfer.active = false → s.cfg.n = 2 → s.pb = [⟨1, 2, 3, 4⟩, ⟨5, 6, 7, 8⟩] →
    ∃ t, accept 0x0500000000000000 s = .next t ∧ t.pb = [⟨0, 0, 0, 0⟩, ⟨0, 0, 0, 0⟩])

/-- R105: SIZE. Its encoding; in every state, a transfer in flight included, the response is the pixel count in 32 bits, no bit of
which is lost in a legal configuration, and no fault is recorded. -/
def Obligations.SizeRespondsPixelCount : Prop :=
  decode 0x0E00000000000000 = .ok .size ∧
  (∀ s : State, exec .size s = .next { s with resp := BitVec.ofNat 32 s.cfg.n, host := .idle }) ∧
  (∀ s : State, s.cfg.wf s.par = true → ∃ t, exec .size s = .next t ∧ t.resp.toNat = s.cfg.n ∧ t.fault = s.fault) ∧
  (∀ s : State, s.cfg.n = 3 → ∃ t, accept 0x0E00000000000000 s = .next t ∧ t.resp = 3)

/-- R107: the frame of the six commands of 40_buffer_ops.md. Whatever state they answer, they have written `PB`, `RESP`, the
host's phase and, where they fault, `FAULT`, and nothing else; SIZE does not write `PB`. -/
def Obligations.BufferCommandsFrame : Prop :=
  ∀ (i : Instr) (s t : State),
    i.mnemonic ∈ [Mnemonic.setallRgb, .setallRgbw, .setpixelRgb, .setpixelRgbw, .clear, .size] → exec i s = .next t →
    t.bri = s.bri ∧ t.gen = s.gen ∧ t.gt = s.gt ∧ t.sb = s.sb ∧ (∀ j, t.readSB j = s.readSB j) ∧
    (∀ v, t.readGT v = s.readGT v) ∧ t.xfer = s.xfer ∧ t.fifo = s.fifo ∧ t.st = s.st ∧ t.slot = s.slot ∧ t.ch = s.ch ∧
    t.te = s.te ∧ t.plat = s.plat ∧ t.wire = s.wire ∧ t.cfg = s.cfg ∧ t.par = s.par ∧
    t.port = s.port ∧ t.sched = s.sched ∧ t.turn = s.turn ∧ t.draws = s.draws ∧
    (i = .size → t.pb = s.pb ∧ ∀ j, t.readPB j = s.readPB j)

/-! ### Colour pipeline (41_color_pipeline.md) -/

/-- R120: SETBRIGHTNESS. Its encoding; in every state, a transfer in flight included, `BRI` and the response are written and
nothing else, so neither the pixel buffer nor the frame in flight; with `b = 0` every word of a later frame is zero, with
`b = 255` scaling is the identity; the example. -/
def Obligations.SetbrightnessWritesBri : Prop :=
  (∀ b : Byte, decode (0x06#8 ++ 0#24 ++ 0#24 ++ b) = .ok (.setbrightness b)) ∧
  (∀ (b : Byte) (s : State), exec (.setbrightness b) s = .next { s with bri := b, resp := 0, host := .idle }) ∧
  (∀ s t : State, exec (.setbrightness 0) s = .next t → ∀ w ∈ t.frameWords, w = 0) ∧
  (∀ (s t : State) (v : Byte), exec (.setbrightness 255) s = .next t →
    t.apply v = if t.gen then t.readGT v else v) ∧
  (∀ s : State, ∃ t, accept 0x0600000000000080 s = .next t ∧ t.bri = 128)

/-- R121: ENABLEGAMMA. Its encoding; in every state `GEN` and all 256 entries of `GT` are written, with the curve or with the
identity, and the response, and nothing else; switching to the value held rewrites the values already there; off after on
restores the identity; the example with the default curve of R126. -/
def Obligations.EnablegammaLoadsTheTable : Prop :=
  (∀ on : Bool, decode (0x07#8 ++ 0#24 ++ 0#24 ++ (if on then 1#8 else 0#8)) = .ok (.enablegamma on)) ∧
  (∀ (on : Bool) (s : State), ∃ t, exec (.enablegamma on) s = .next t ∧ t.gen = on ∧
    (∀ v : Byte, t.readGT v = if on then s.par.gammaCurve[v.toNat]'v.isLt else v) ∧
    t = { s with gen := on, gt := t.gt, resp := 0, host := .idle }) ∧
  (∀ s : State, StateInv s → exec (.enablegamma s.gen) s = .next { s with resp := 0, host := .idle }) ∧
  (∀ s t u : State, exec (.enablegamma true) s = .next t → exec (.enablegamma false) t = .next u →
    ∀ v : Byte, u.readGT v = v) ∧
  (∀ s : State, s.par.gammaCurve = Config.defaultGamma → ∃ t, accept 0x0700000000000001 s = .next t ∧ t.gen = true ∧
    t.readGT 128 = 56)

/-- R123: the scaling step is the exact quotient `(g * b + 127) // 255`, which fits in 8 bits and is the integer nearest to
`g * b / 255`, with no tie. -/
def Obligations.ScaleRoundsToNearest : Prop :=
  ∀ g b : Byte,
    g.toNat * b.toNat + 127 ≤ 65152 ∧
    (scale g b).toNat = (g.toNat * b.toNat + 127) / 255 ∧
    2 * (g.toNat * b.toNat) < 255 * (2 * (scale g b).toNat + 1) ∧
    255 * (2 * (scale g b).toNat) < 2 * (g.toNat * b.toNat) + 255 ∧
    ∀ k : Nat, 2 * (g.toNat * b.toNat) ≠ 255 * (2 * k + 1)

/-- R124: the properties of the scaling step. -/
def Obligations.ScaleProperties : Prop :=
  (∀ v : Byte, scale v 255 = v ∧ scale v 0 = 0) ∧
  (∀ v b c : Byte, b.toNat ≤ c.toNat → (scale v b).toNat ≤ (scale v c).toNat) ∧
  (∀ b : Byte, scale 0 b = 0 ∧ scale 255 b = b) ∧
  (∀ g b : Byte, scale g b = scale b g) ∧
  (∀ g h b : Byte, g.toNat ≤ h.toNat → (scale g b).toNat ≤ (scale h b).toNat) ∧
  (∀ g b : Byte, (scale g b).toNat ≤ min g.toNat b.toNat) ∧
  scale 1 128 = 1

/-- R125: gamma is applied to the stored value and brightness to the gamma-corrected one; the order matters, as the example
with the default curve shows. -/
def Obligations.GammaBeforeBrightness : Prop :=
  (∀ (s : State) (v : Byte), StateInv s → s.apply v = scale (s.readGT v) s.bri) ∧
  (∀ s : State, s.gen = true → s.gt = Config.defaultGamma → s.bri = 128 →
    s.apply 200 = 75 ∧ s.readGT (scale 200 s.bri) = 33)

/-- The frame of the two pipeline commands: the pixel buffer, the frame already encoded and everything else are as before
(R127, R128). -/
def Obligations.PipelineCommandsFrame : Prop :=
  ∀ (i : Instr) (s t : State), i.mnemonic ∈ [Mnemonic.setbrightness, .enablegamma] → exec i s = .next t →
    (∀ j, t.readPB j = s.readPB j) ∧ (∀ j, t.readSB j = s.readSB j) ∧ t.pb = s.pb ∧ t.sb = s.sb ∧ t.fifo = s.fifo ∧
    t.xfer = s.xfer ∧ t.st = s.st ∧ t.slot = s.slot ∧ t.ch = s.ch ∧ t.te = s.te ∧ t.plat = s.plat ∧ t.wire = s.wire ∧
    t.fault = s.fault ∧ t.cfg = s.cfg ∧ t.par = s.par ∧ t.port = s.port ∧ t.sched = s.sched ∧ t.turn = s.turn ∧
    t.draws = s.draws ∧
    (i.mnemonic = .setbrightness → t.gen = s.gen ∧ t.gt = s.gt) ∧ (i.mnemonic = .enablegamma → t.bri = s.bri)

/-! ### Frame encoder (42_frame_encoder.md) -/

/-- R141: `pack24` puts the transformed G, R, B in the three upper bytes and 0 in the lowest, never reads `p.w`, gives 0 for a
black pixel under a gamma table that keeps 0, and the two examples. -/
def Obligations.PackingOf24Bits : Prop :=
  (∀ (s : State) (p : Pixel), s.pack24 p = s.apply p.g ++ s.apply p.r ++ s.apply p.b ++ 0#8) ∧
  (∀ (s : State) (r g b w x : Byte), s.pack24 ⟨r, g, b, w⟩ = s.pack24 ⟨r, g, b, x⟩) ∧
  (∀ (s : State) (p : Pixel), s.bri = 255 → s.gen = false → s.pack24 p = p.g ++ p.r ++ p.b ++ 0#8) ∧
  (∀ (s : State) (w : Byte), (s.gen = true → s.readGT 0 = 0) → s.pack24 ⟨0, 0, 0, w⟩ = 0) ∧
  (∀ (s : State) (w : Byte), s.bri = 255 → s.gen = false → s.pack24 ⟨0x12, 0x34, 0x56, w⟩ = 0x34125600)

/-- R142: `pack32` puts the transformed G, R, B, W in the four bytes; the white channel goes through the same transform; the
example. -/
def Obligations.PackingOf32Bits : Prop :=
  (∀ (s : State) (p : Pixel), s.pack32 p = s.apply p.g ++ s.apply p.r ++ s.apply p.b ++ s.apply p.w) ∧
  (∀ (s : State) (p : Pixel), s.bri = 255 → s.gen = false → s.pack32 p = p.g ++ p.r ++ p.b ++ p.w) ∧
  (∀ s : State, (s.gen = true → s.readGT 0 = 0) → s.apply 0 = 0) ∧
  (∀ s : State, s.bri = 255 → s.gen = false → s.pack32 ⟨0x10, 0x20, 0x30, 0x40⟩ = 0x20103040)

/-- R143: the encode rewrites every element of `SB` with the word of the same element of `PB`, packed by the wire format, and
changes nothing else. -/
def Obligations.EncodeFrameInBufferOrder : Prop :=
  ∀ s : State,
    (∀ j, s.encodeFrame.readSB j =
      (s.readPB j).map (fun p => match s.cfg.fmt with | .rgb => s.pack24 p | .rgbw => s.pack32 p)) ∧
    s.encodeFrame.sb.length = s.pb.length ∧ s.encodeFrame = { s with sb := s.encodeFrame.sb }

/-- The white channel of a 24-bit strip is unused (R108): two states on wire format RGB that differ in the white channels of `PB`
only encode the same frame, every command takes them to states that differ there only, and so does every step of every agent;
so they have the same wire log, the same response and the same faults after any number of steps. (The inputs are log entries 1
and 2.) -/
def Obligations.WhiteUnusedOn24BitStrip : Prop :=
  ∀ (s : State) (q : List Pixel), s.cfg.fmt = .rgb →
    q.map (fun p => (p.r, p.g, p.b)) = s.pb.map (fun p => (p.r, p.g, p.b)) →
    ({ s with pb := q } : State).frameWords = s.frameWords ∧
    (∀ (i : Instr) (t : State), exec i s = .next t →
      ∃ q', exec i { s with pb := q } = .next { t with pb := q' } ∧
        q'.map (fun p => (p.r, p.g, p.b)) = t.pb.map (fun p => (p.r, p.g, p.b))) ∧
    (∀ t : State, step s = .next t →
      t.cfg.fmt = .rgb ∧ ∃ q', step { s with pb := q } = .next { t with pb := q' } ∧
        q'.map (fun p => (p.r, p.g, p.b)) = t.pb.map (fun p => (p.r, p.g, p.b))) ∧
    (∀ f : Fault, step s = .fault f → step { s with pb := q } = .fault f)

/-! ### Transmission engine (43_engine_commands.md) -/

/-- BEGIN succeeds: in a legal, uninitialised state with the program loaded or loadable and a slot requested or free, BEGIN
answers a ready state with response 1, a slot of the block and a channel wherever one is free, each of them claimed, and the
pixel buffer cleared; nothing is sent. Of the platform it changes nothing else: every other slot's and every other channel's
claim and the programs of the other blocks are as they were (R160). -/
def Obligations.BeginSucceeds : Prop :=
  ∀ s : State, s.par.wf = true → s.cfg.wf s.par = true → s.plat.wf s.par = true → s.st = .uninitialized →
    BeginCanSucceed s →
    ∃ t k, exec .beginCmd s = .next t ∧ t.resp = 1 ∧ t.host = .idle ∧ t.st = .ready ∧ t.slot = some k ∧
      k < s.par.nslots ∧ t.plat.slotBit s.cfg.block k = true ∧
      (0 ≤ s.cfg.slotReq → (k : Int) = s.cfg.slotReq) ∧
      (s.cfg.slotReq = -1 → s.plat.slotBit s.cfg.block k = false) ∧
      (∃ off, t.plat.program s.cfg.block = .loaded off) ∧
      (∀ off, s.plat.program s.cfg.block = .loaded off → t.plat.prog = s.plat.prog) ∧
      t.te = ⟨s.cfg.pin, s.cfg.rateHz, s.cfg.width⟩ ∧ t.fifo = [] ∧
      (s.plat.freeChans s.par = [] → t.ch = .unavailable ∧ t.xfer = s.xfer) ∧
      (s.plat.freeChans s.par ≠ [] → ∃ c, c < s.par.nchan ∧ s.plat.chanBit c = false ∧ t.ch = .available c ∧
        t.plat.chanBit c = true ∧ t.xfer = ⟨false, 0, 0, ⟨true, false, true, 32, true⟩⟩) ∧
      (∀ b k', (b ≠ s.cfg.block ∨ k' ≠ k) → t.plat.slotBit b k' = s.plat.slotBit b k') ∧
      (∀ c, t.ch ≠ .available c → t.plat.chanBit c = s.plat.chanBit c) ∧
      (∀ b, b ≠ s.cfg.block → t.plat.program b = s.plat.program b) ∧
      t.pb = List.replicate s.cfg.n ⟨0, 0, 0, 0⟩ ∧
      t.wire = s.wire ∧ t.bri = s.bri ∧ t.gen = s.gen ∧ t.gt = s.gt ∧ t.sb = s.sb ∧ t.fault = s.fault

/-- BEGIN fails in exactly two cases: with the program neither loaded nor loadable nothing changes but the response; with
auto-claim and no free slot nothing changes but the response and the program's place, which keeps what was loaded. (`draws` is
the model's own: log entry 4.) -/
def Obligations.BeginFailsInTwoCases : Prop :=
  (∀ s : State, s.st = .uninitialized → s.plat.program s.cfg.block = .notLoaded →
    s.par.progFits.getD s.cfg.block false = false → exec .beginCmd s = .next { s with resp := 0, host := .idle }) ∧
  (∀ s : State, s.par.wf = true → s.cfg.wf s.par = true → s.plat.wf s.par = true → s.st = .uninitialized →
    (s.plat.program s.cfg.block ≠ .notLoaded ∨ s.par.progFits.getD s.cfg.block false = true) →
    s.cfg.slotReq = -1 → s.plat.freeSlots s.par s.cfg.block = [] →
    ∃ t off, exec .beginCmd s = .next t ∧ t.resp = 0 ∧ t.plat.program s.cfg.block = .loaded off ∧
      (∀ b, b ≠ s.cfg.block → t.plat.program b = s.plat.program b) ∧
      (∀ o, s.plat.program s.cfg.block = .loaded o → off = o) ∧
      t = { s with resp := 0, host := .idle, draws := t.draws, plat := { s.plat with prog := t.plat.prog } }) ∧
  (∀ s t : State, s.st = .uninitialized → exec .beginCmd s = .next t → t.resp = 0 →
    (s.plat.program s.cfg.block = .notLoaded ∧ s.par.progFits.getD s.cfg.block false = false) ∨
    (s.cfg.slotReq = -1 ∧ s.plat.freeSlots s.par s.cfg.block = []))

/-- The program of a block is loaded at most once: whatever step is taken, a block that holds it keeps it at its offset. (The
inputs are log entries 1 and 2.) -/
def Obligations.ProgramNeverUnloaded : Prop :=
  ∀ (s t : State) (blk off : Nat), step s = .next t → s.plat.program blk = .loaded off → t.plat.program blk = .loaded off

/-- SHOW, its step of acceptance: it encodes the frame, enters `Transmitting`, and starts the channel from `SB[0]` for `CFG.N`
words, holding the host in `WaitXfer`, or leaves the host to push from index 0. -/
def Obligations.ShowStartsFrame : Prop :=
  decode 0x0900000000000000 = .ok .showCmd ∧
  (∀ (s : State) (c : Nat), s.st ≠ .uninitialized → s.xfer.active = false → s.ch = .available c →
    exec .showCmd s = .next { s with sb := s.frameWords, st := .transmitting, host := .waitXfer,
                                     xfer := { s.xfer with active := true, rptr := 0, rem := BitVec.ofNat 24 s.cfg.n } }) ∧
  (∀ s : State, s.st ≠ .uninitialized → s.xfer.active = false → s.ch = .unavailable →
    exec .showCmd s = .next { s with sb := s.frameWords, st := .transmitting, host := .pushing 0 .thenLatch })

/-- SHOWASYNC, its step of acceptance: with a channel it completes at once and the transfer runs on its own; without one the
host pushes and will then return. -/
def Obligations.ShowasyncStartsFrame : Prop :=
  decode 0x0A00000000000000 = .ok .showasync ∧
  (∀ (s : State) (c : Nat), s.st ≠ .uninitialized → s.xfer.active = false → s.ch = .available c →
    exec .showasync s = .next { s with sb := s.frameWords, st := .transmitting, host := .idle, resp := 0,
                                       xfer := { s.xfer with active := true, rptr := 0, rem := BitVec.ofNat 24 s.cfg.n } }) ∧
  (∀ s : State, s.st ≠ .uninitialized → s.xfer.active = false → s.ch = .unavailable →
    exec .showasync s = .next { s with sb := s.frameWords, st := .transmitting, host := .pushing 0 .thenReturn })

/-- R167: BUSY. Its encoding; the response is 1 exactly when a channel is held and its transfer is active; no state is changed
but the response. -/
def Obligations.BusyReportsTheChannel : Prop :=
  decode 0x0B00000000000000 = .ok .busy ∧
  (∀ (s : State) (c : Nat), s.ch = .available c →
    exec .busy s = .next { s with resp := if s.xfer.active then 1 else 0, host := .idle }) ∧
  (∀ s : State, s.ch = .unavailable → exec .busy s = .next { s with resp := 0, host := .idle }) ∧
  (∀ s : State, StateInv s → s.st = .uninitialized → exec .busy s = .next { s with resp := 0 })

/-- WAIT, its step of acceptance: in `Uninitialized` it completes and logs nothing; else the host is held in `WaitXfer`. -/
def Obligations.WaitHoldsTheHost : Prop :=
  decode 0x0C00000000000000 = .ok .wait ∧
  (∀ s : State, s.st = .uninitialized → exec .wait s = .next { s with resp := 0, host := .idle }) ∧
  (∀ s : State, s.st ≠ .uninitialized → exec .wait s = .next { s with host := .waitXfer })

/-- END: in `Uninitialized` without effect; else the transfer is aborted, the queue emptied, the channel and the slot held are
released, `Abort` is logged exactly when a transfer was active or words were queued, and the pixel buffer, the pipeline and the
loaded programs stay. A second END is without effect. That END empties the queue, and logs `Abort` for words that did not reach
the wire, is the spec's own choice (D21; log entry 19, DESIGN CHOICE). -/
def Obligations.EndReleasesResources : Prop :=
  decode 0x0D00000000000000 = .ok .endCmd ∧
  (∀ s : State, s.st = .uninitialized → exec .endCmd s = .next { s with resp := 0, host := .idle }) ∧
  (∀ s : State, s.st ≠ .uninitialized → ∃ t, exec .endCmd s = .next t ∧ t.resp = 0 ∧ t.host = .idle ∧
    t.st = .uninitialized ∧ t.slot = none ∧ t.ch = .unavailable ∧
    t.xfer.active = false ∧ t.xfer.rptr = 0 ∧ t.xfer.rem = 0 ∧ t.fifo = [] ∧
    ((s.xfer.active = true ∨ s.fifo ≠ []) → t.wire = s.wire ++ [.abort]) ∧
    (s.xfer.active = false → s.fifo = [] → t.wire = s.wire) ∧
    (∀ c, s.ch = .available c → t.plat.chanBit c = false) ∧
    (∀ c, s.ch ≠ .available c → t.plat.chanBit c = s.plat.chanBit c) ∧
    (∀ k, s.slot = some k → t.plat.slotBit s.cfg.block k = false) ∧
    (∀ b k, (b ≠ s.cfg.block ∨ s.slot ≠ some k) → t.plat.slotBit b k = s.plat.slotBit b k) ∧
    t.plat.prog = s.plat.prog ∧ t.pb = s.pb ∧ t.bri = s.bri ∧ t.gen = s.gen ∧ t.gt = s.gt ∧ t.sb = s.sb ∧
    t.te = s.te ∧ t.fault = s.fault ∧
    exec .endCmd t = .next t)

/-- The frame of the engine commands: what each of BEGIN, SHOW, SHOWASYNC, BUSY, WAIT and END leaves as it was. Of the platform
BEGIN changes at most the claims of the slot and the channel it then holds and the program of its own block. -/
def Obligations.EngineCommandsFrame : Prop :=
  ∀ (i : Instr) (s t : State),
    i.mnemonic ∈ [Mnemonic.beginCmd, .showCmd, .showasync, .busy, .wait, .endCmd] → exec i s = .next t →
    t.cfg = s.cfg ∧ t.par = s.par ∧ t.bri = s.bri ∧ t.gen = s.gen ∧ t.gt = s.gt ∧ (∀ v, t.readGT v = s.readGT v) ∧
    t.port = s.port ∧ t.sched = s.sched ∧ t.turn = s.turn ∧
    (i ≠ .beginCmd → t.pb = s.pb ∧ (∀ j, t.readPB j = s.readPB j) ∧ t.te = s.te ∧ t.draws = s.draws ∧
      t.plat.prog = s.plat.prog) ∧
    (i ≠ .endCmd → t.wire = s.wire) ∧
    (i ≠ .showCmd → i ≠ .showasync → t.sb = s.sb ∧ ∀ j, t.readSB j = s.readSB j) ∧
    (i ≠ .beginCmd → i ≠ .endCmd → t.fifo = s.fifo ∧ t.slot = s.slot ∧ t.ch = s.ch ∧ t.plat = s.plat) ∧
    (i = .beginCmd →
      (∀ b k, (b ≠ s.cfg.block ∨ t.slot ≠ some k) → t.plat.slotBit b k = s.plat.slotBit b k) ∧
      (∀ c, t.ch ≠ .available c → t.plat.chanBit c = s.plat.chanBit c) ∧
      (∀ b, b ≠ s.cfg.block → t.plat.program b = s.plat.program b)) ∧
    (i = .busy ∨ i = .wait → t.xfer = s.xfer ∧ t.st = s.st ∧ t.fault = s.fault)

/-! ### The agents (44_engine_agents.md) -/

/-- R190 and R191: the transfer channel's turn. Enabled, with an active transfer, room in the queue and its index in the staging
buffer, it queues the word at its index, advances, counts down, and at 0 ends the transfer in the same step; else nothing moves.
(The inputs are log entries 1 and 2.) -/
def Obligations.XferMoveStep : Prop :=
  ∀ s : State, s.fault = none → s.nextAgent = .channel →
    (∀ w, s.xfer.active = true → s.fifo.length < s.par.fifoDepth → s.readSB s.xfer.rptr.toNat = some w →
      step s = .next { s with sched := s.sched.tail, turn := s.turn + 1, fifo := s.fifo ++ [w],
                              st := if s.xfer.rem - 1 = 0 then .ready else s.st,
                              xfer := { s.xfer with rptr := s.xfer.rptr + 1, rem := s.xfer.rem - 1,
                                                    active := !decide (s.xfer.rem - 1 = 0) } }) ∧
    ((s.xfer.active = false ∨ s.par.fifoDepth ≤ s.fifo.length) →
      step s = .next { s with sched := s.sched.tail, turn := s.turn + 1 })

/-- R192: the host held in `WaitXfer` goes on to `LatchWait` exactly when no channel is held or the channel is idle. (The inputs
are log entries 1 and 2.) -/
def Obligations.WaitXferDoneStep : Prop :=
  ∀ s : State, s.fault = none → s.nextAgent = .host → s.host = .waitXfer →
    ((s.ch = .unavailable ∨ s.xfer.active = false) →
      step s = .next { s with sched := s.sched.tail, turn := s.turn + 1, host := .latchWait }) ∧
    (s.ch ≠ .unavailable → s.xfer.active = true →
      step s = .next { s with sched := s.sched.tail, turn := s.turn + 1 })

/-- R193: the host's push, for an index in the staging buffer. (The inputs are log entries 1 and 2.) -/
def Obligations.PushWordStep : Prop :=
  ∀ (s : State) (i : Idx) (k : AfterPush), s.fault = none → s.nextAgent = .host → s.host = .pushing i k →
    (∀ w, s.fifo.length < s.par.fifoDepth → s.readSB i.toNat = some w → i.toNat + 1 < s.cfg.n →
      step s = .next { s with sched := s.sched.tail, turn := s.turn + 1, fifo := s.fifo ++ [w], host := .pushing (i + 1) k }) ∧
    (∀ w, s.fifo.length < s.par.fifoDepth → s.readSB i.toNat = some w → s.cfg.n ≤ i.toNat + 1 → k = .thenLatch →
      step s = .next { s with sched := s.sched.tail, turn := s.turn + 1, fifo := s.fifo ++ [w], st := .ready,
                              host := .latchWait }) ∧
    (∀ w, s.fifo.length < s.par.fifoDepth → s.readSB i.toNat = some w → s.cfg.n ≤ i.toNat + 1 → k = .thenReturn →
      step s = .next { s with sched := s.sched.tail, turn := s.turn + 1, fifo := s.fifo ++ [w], st := .ready, host := .idle,
                              resp := 0 }) ∧
    (s.par.fifoDepth ≤ s.fifo.length → step s = .next { s with sched := s.sched.tail, turn := s.turn + 1 })

/-- R194: the host held in `LatchWait` logs `Latch` and completes exactly when the queue is empty. That it waits for the empty
queue is the spec's own choice (D19; log entry 12, DESIGN CHOICE, unsafe). (The inputs are log entries 1 and 2.) -/
def Obligations.LatchDoneStep : Prop :=
  ∀ s : State, s.fault = none → s.nextAgent = .host → s.host = .latchWait →
    (s.fifo = [] →
      step s = .next { s with sched := s.sched.tail, turn := s.turn + 1, wire := s.wire ++ [.latch], host := .idle,
                              resp := 0 }) ∧
    (s.fifo ≠ [] → step s = .next { s with sched := s.sched.tail, turn := s.turn + 1 })

/-- R195: the timing engine takes the head of the queue and puts its top `TE.WIDTH` bits on the wire: bits 31..8 or 31..0. (The
inputs are log entries 1 and 2.) -/
def Obligations.ShiftWordStep : Prop :=
  ∀ s : State, s.fault = none → s.nextAgent = .engine →
    (∀ k w q, s.slot = some k → s.fifo = w :: q →
      ∃ v, step s = .next { s with sched := s.sched.tail, turn := s.turn + 1, fifo := q,
                                   wire := s.wire ++ [.word v s.te.width] } ∧
        (s.te.width = .w24 → v = (w.extractLsb' 8 24).zeroExtend 32) ∧ (s.te.width = .w32 → v = w)) ∧
    ((s.slot = none ∨ s.fifo = []) → step s = .next { s with sched := s.sched.tail, turn := s.turn + 1 })

/-- R200 and R201: idle time logs a `Latch` and changes no hardware state, exactly when a slot is held, the host is idle, no
transfer is active and the queue is empty; there is no such step while a frame is produced, even with an empty queue, which is
the spec's own choice (D20; log entry 13, DESIGN CHOICE, unsafe). (The inputs are log entries 1 and 2.) -/
def Obligations.IdleGapStep : Prop :=
  ∀ s : State, s.fault = none → s.nextAgent = .time →
    (s.slot ≠ none → s.host = .idle → s.xfer.active = false → s.fifo = [] →
      step s = .next { s with sched := s.sched.tail, turn := s.turn + 1, wire := s.wire ++ [.latch] }) ∧
    ((s.slot = none ∨ s.host ≠ .idle ∨ s.xfer.active = true ∨ s.fifo ≠ []) →
      step s = .next { s with sched := s.sched.tail, turn := s.turn + 1 })

/-- The data-request handshake: from a state of the invariant a step that makes the queue longer adds one word, which stands in
`SB`, was taken with `DREQ = 1`, and leaves the queue within its depth; the two producers are never active together. (The inputs
are log entries 1 and 2.) -/
def Obligations.QueueGrowsOnlyOnDataRequest : Prop :=
  ∀ s t : State, StateInv s →
    (step s = .next t → s.fifo.length < t.fifo.length →
      s.dreqFlag = true ∧ t.fifo.length ≤ s.par.fifoDepth ∧ ∃ w ∈ s.sb, t.fifo = s.fifo ++ [w]) ∧
    ¬ (s.xfer.active = true ∧ ∃ i k, s.host = .pushing i k)

/-- R34: the wire log only grows, by at most one event a step, and nothing else depends on it: from a state that differs in the
log alone the step gives a state that differs in the log alone, with the same event added. (The inputs are log entries 1 and 2.)
-/
def Obligations.WireLogOnlyRecords : Prop :=
  ∀ s t : State, step s = .next t →
    ∃ es, es.length ≤ 1 ∧ t.wire = s.wire ++ es ∧
      ∀ log, step { s with wire := log } = .next { t with wire := log ++ es }

/-- R15: no step changes the configuration or the platform's parameters. (The inputs are log entries 1 and 2.) -/
def Obligations.ConfigurationNeverChanges : Prop :=
  ∀ s t : State, step s = .next t → t.cfg = s.cfg ∧ t.par = s.par

/-- R27: the engine state moves only along the lifecycle. From a state of the invariant, a step that changes `ST` goes from
`Uninitialized` to `Ready` by a BEGIN that responds 1, from `Ready` to `Transmitting` by SHOW or SHOWASYNC, from `Transmitting`
to `Ready` by the last word of the channel or of the host's push, or to `Uninitialized` by END. (The inputs are log entries 1
and 2.) -/
def Obligations.EngineStateTransitions : Prop :=
  ∀ s t : State, StateInv s → step s = .next t → t.st ≠ s.st →
    (s.st = .uninitialized ∧ t.st = .ready ∧ t.resp = 1 ∧ ∃ cw rest, s.port = cw :: rest ∧ decode cw = .ok .beginCmd) ∨
    (s.st = .ready ∧ t.st = .transmitting ∧
      ∃ cw rest, s.port = cw :: rest ∧ (decode cw = .ok .showCmd ∨ decode cw = .ok .showasync)) ∨
    (s.st = .transmitting ∧ t.st = .ready ∧ s.nextAgent = .channel ∧ s.xfer.active = true ∧ s.xfer.rem = 1) ∨
    (s.st = .transmitting ∧ t.st = .ready ∧ s.nextAgent = .host ∧ ∃ i k, s.host = .pushing i k ∧ i.toNat + 1 = s.cfg.n) ∨
    (t.st = .uninitialized ∧ ∃ cw rest, s.port = cw :: rest ∧ decode cw = .ok .endCmd)

/-- R168: BUSY responds 0 right after WAIT or SHOW completes and after END, whether or not a channel is held. (The inputs are
log entries 1 and 2.) -/
def Obligations.BusyFalseAfterWait : Prop :=
  (∀ s t : State, StateInv s → s.host = .latchWait → step s = .next t → t.host = .idle →
    ∃ u, exec .busy t = .next u ∧ u.resp = 0) ∧
  (∀ s t : State, exec .endCmd s = .next t → (s.st = .uninitialized → s.ch = .unavailable) →
    ∃ u, exec .busy t = .next u ∧ u.resp = 0) ∧
  (∀ s t : State, StateInv s → step s = .next t → s.xfer.active = false → t.xfer.active = true →
    ∃ cw rest, s.port = cw :: rest ∧ (decode cw = .ok .showCmd ∨ decode cw = .ok .showasync))

/-! ### Reset and the invariant (10_state.md, 70_reset_and_hazards.md) -/

/-- R43: what construction leaves, for every legal configuration, platform and launch value and whatever the buffers and `TE`
hold; and an illegal configuration is refused (R21). -/
def Obligations.ConstructionGivesResetValues : Prop :=
  (∀ cfg par plat pb sb te s, State.construct cfg par plat pb sb te = some s →
    s.cfg = cfg ∧ s.bri = 255 ∧ s.gen = false ∧ (∀ v : Byte, s.readGT v = v) ∧ s.st = .uninitialized ∧ s.slot = none ∧
    s.ch = .unavailable ∧ s.xfer.active = false ∧ s.xfer.rptr = 0 ∧ s.xfer.rem = 0 ∧ s.fifo = [] ∧ s.host = .idle ∧
    s.resp = 0 ∧ s.wire = [] ∧ s.fault = none ∧ s.plat = plat ∧ s.pb = pb ∧ s.sb = sb ∧ s.te = te ∧ s.cmdReady = true) ∧
  (∀ cfg par plat pb sb te,
    (cfg.n = 0 ∨ 2 ^ 24 ≤ cfg.n ∨ par.nblocks ≤ cfg.block ∨ (par.nslots : Int) ≤ cfg.slotReq ∨ cfg.slotReq < -1 ∨
      cfg.rateHz = 0) → State.construct cfg par plat pb sb te = none)

/-- Every legal construction, and with it `State.reset`, is in the invariant. That `State.reset` is one of them rests on log
entries 6 and 7. -/
def Obligations.ConstructionMeetsInvariant : Prop :=
  (∀ cfg par plat pb sb te s, State.construct cfg par plat pb sb te = some s → StateInv s) ∧ StateInv State.reset

/-- R44, with R26, R27, R28, R31 and R40: every step keeps the invariant. (The inputs are log entries 1 and 2.) -/
def Obligations.StepKeepsInvariant : Prop := ∀ s t : State, StateInv s → step s = .next t → StateInv t

/-! ### Whole commands -/

/-- R203: the guarantee of SHOW. Let SHOW be accepted in a ready state of the invariant with an empty queue. Whatever agents move
in whatever order, when the command completes the events added to the wire log are the frame's words in buffer order and then
one `Latch`, and the state is as R203 says; with a log that was closed, its frames have gained exactly one, closed and clean.
It rests on the spec's own choices that the latch waits for the empty queue and that there is no gap inside a frame (D19, D20;
log entries 12 and 13, DESIGN CHOICE, unsafe). (The inputs are log entries 1 and 2.) -/
def Obligations.ShowGuarantee : Prop :=
  ∀ (s t : State) (k : Nat), StateInv s → s.st = .ready → s.fifo = [] → s.cmdReady = true → s.nextAgent = .host →
    (∃ cw rest, s.port = cw :: rest ∧ decode cw = .ok .showCmd) → 0 < k →
    After k s t → t.host = .idle → (∀ j u, 0 < j → j < k → After j s u → u.host ≠ .idle) →
    t.wire = s.wire ++ frameEvents s ++ [.latch] ∧ t.st = .ready ∧ t.xfer.active = false ∧ t.fifo = [] ∧ t.resp = 0 ∧
    t.pb = s.pb ∧ t.bri = s.bri ∧ t.gen = s.gen ∧ t.gt = s.gt ∧ t.fault = none ∧
    (LogClosed s.wire → frames t.wire = frames s.wire ++ [⟨frameEvents s, true⟩])

/-- R199: a command in progress completes. From a state of the invariant with the host held, along any schedule that begins with
enough fair rounds (two for each word and three besides), the host becomes idle, without a fault. (The inputs are log entries 1
and 2.) -/
def Obligations.HeldCommandCompletes : Prop :=
  ∀ (s : State) (rounds : List (List Agent)) (rest : List Agent), StateInv s → s.fault = none → s.host ≠ .idle →
    (∀ r ∈ rounds, Round r) → s.sched = rounds.flatten ++ rest → 2 * s.cfg.n + s.fifo.length + 3 ≤ rounds.length →
    ∃ k t, k ≤ rounds.flatten.length ∧ FirstIdle k s t ∧ t.fault = none ∧ t.resp = 0

/-- The other half of R203: SHOWASYNC and then, with only BUSY, SIZE, SETBRIGHTNESS or ENABLEGAMMA between, WAIT. Whatever
agents move in whatever order, when WAIT completes the events added since SHOWASYNC was accepted are the frame's words in buffer
order and then one or more `Latch`, the last of which WAIT logged. It rests on the spec's own choices that the latch waits for
the empty queue and that there is no gap inside a frame (D19, D20; log entries 12 and 13, DESIGN CHOICE, unsafe). (The inputs
are log entries 1 and 2.) -/
def Obligations.ShowasyncThenWaitGuarantee : Prop :=
  ∀ (s t : State) (k : Nat) (asyncCw waitCw : Cmd) (mid rest : List Cmd), StateInv s → s.st = .ready → s.fifo = [] →
    s.cmdReady = true → s.port = asyncCw :: mid ++ waitCw :: rest →
    decode asyncCw = .ok .showasync → decode waitCw = .ok .wait →
    (∀ cw ∈ mid, ∃ i, decode cw = .ok i ∧ i.mnemonic ∈ [Mnemonic.busy, .size, .setbrightness, .enablegamma]) →
    s.nextAgent = .host → After k s t → t.port = rest → t.host = .idle →
    (∀ j u, j < k → After j s u → u.port = rest → u.host ≠ .idle) →
    ∃ gaps, (∀ e ∈ gaps, e = Event.latch) ∧ t.wire = s.wire ++ frameEvents s ++ gaps ++ [.latch] ∧
      t.st = .ready ∧ t.xfer.active = false ∧ t.fifo = [] ∧ t.resp = 0 ∧ t.pb = s.pb ∧ t.fault = none

/-- R204: the reading of the wire log. Every frame is a non-empty list of `Word` and `Abort` events and only the last can be open;
a closed log that gains a non-empty piece without `Latch` and then `Latch` gains that piece as a closed frame, without it the
piece as an open one; another `Latch` after a closed log adds nothing. -/
def Obligations.FramesCutAtLatch : Prop :=
  (∀ log : List Event, (∀ f ∈ frames log, f.events ≠ [] ∧ Event.latch ∉ f.events) ∧
    ∀ f ∈ (frames log).dropLast, f.closed = true) ∧
  (∀ (log piece : List Event), LogClosed log → piece ≠ [] → Event.latch ∉ piece →
    frames (log ++ piece ++ [.latch]) = frames log ++ [⟨piece, true⟩] ∧
    frames (log ++ piece) = frames log ++ [⟨piece, false⟩]) ∧
  (∀ log : List Event, LogClosed log → frames (log ++ [.latch]) = frames log ∧ ∀ f ∈ frames log, f.closed = true) ∧
  frames [] = []

/-- R162: which slot, channel and offset BEGIN drew is not observable. Two states that hold a slot and differ only in the
numbers of the slot and the channel held, in the platform and in the count of draws take the same step, and give states that
again differ in nothing else. (The inputs are log entries 1 and 2.) (`draws` is the model's own: log entry 4.) -/
def Obligations.DrawsAreNotObservable : Prop :=
  ∀ (s t : State) (k k' c' d : Nat) (x : Plat), StateInv s → s.slot = some k → step s = .next t →
    ∃ t', step { s with slot := some k', plat := x, draws := d,
                        ch := match s.ch with | .available _ => .available c' | .unavailable => .unavailable } = .next t' ∧
      t'.slot.isSome = t.slot.isSome ∧ (t'.ch = .unavailable ↔ t.ch = .unavailable) ∧
      t' = { t with slot := t'.slot, ch := t'.ch, plat := t'.plat, draws := t'.draws }

/-- R244: several instances on one platform. Every step of the system keeps that no channel and no auto-claimed slot of a block
is held by two of them, and that each is marked claimed. The step of the system is the model's reading of R244's composition
(log entry 5, DEDUCED), and that every instance claims its slot itself is a premise (log entry 17, DEDUCED, unsafe). (The inputs
are log entries 1 and 2.) -/
def Obligations.HeldResourcesStayDistinct : Prop :=
  ∀ sy sz : System, Fits sy → HeldOnce sy → sy.step = .next sz → Fits sz ∧ HeldOnce sz

/-! ### `hsv` (45_colormodel_hsv.md) -/

/-- R221: the source's values, and no saturation gives no colour. The function is exact (log entry 9, DESIGN CHOICE). -/
def Obligations.HsvRequiredValues : Prop :=
  hsv 0 1 1 = ⟨255, 0, 0⟩ ∧ hsv 120 1 1 = ⟨0, 255, 0⟩ ∧ hsv 240 1 1 = ⟨0, 0, 255⟩ ∧
  ∀ h v : Rat, (hsv h 0 v).r = (hsv h 0 v).g ∧ (hsv h 0 v).g = (hsv h 0 v).b

/-- The general part of R222: hue has period 360, saturation and value are clamped, and value 0 or less is black. It speaks of
all rational numbers, and so of the exact function, a half rounded upward, which is the spec's own choice (D26, R223; log entry
9, DESIGN CHOICE, unsafe). -/
def Obligations.HsvWrapsAndClamps : Prop :=
  (∀ (h s v : Rat) (n : Int), hsv (h + 360 * n) s v = hsv h s v) ∧
  (∀ h s v : Rat, (1 ≤ s → hsv h s v = hsv h 1 v) ∧ (s ≤ 0 → hsv h s v = hsv h 0 v)) ∧
  (∀ h s v : Rat, 1 ≤ v → hsv h s v = hsv h s 1) ∧
  (∀ h s v : Rat, v ≤ 0 → hsv h s v = ⟨0, 0, 0⟩)
end

