-- ==== Sys2Proof/Laws/State.lean ====
section
/-! SUPPORT. What each update of the state does to each field, so that no proof unfolds a record update. -/

namespace Sys2Proof.Machine

/-! `respond` -/

@[simp] theorem State.respond_cfg (s : State) (v : Word32) : (s.respond v).cfg = s.cfg := rfl
@[simp] theorem State.respond_par (s : State) (v : Word32) : (s.respond v).par = s.par := rfl
@[simp] theorem State.respond_pb (s : State) (v : Word32) : (s.respond v).pb = s.pb := rfl
@[simp] theorem State.respond_bri (s : State) (v : Word32) : (s.respond v).bri = s.bri := rfl
@[simp] theorem State.respond_gen (s : State) (v : Word32) : (s.respond v).gen = s.gen := rfl
@[simp] theorem State.respond_gt (s : State) (v : Word32) : (s.respond v).gt = s.gt := rfl
@[simp] theorem State.respond_st (s : State) (v : Word32) : (s.respond v).st = s.st := rfl
@[simp] theorem State.respond_slot (s : State) (v : Word32) : (s.respond v).slot = s.slot := rfl
@[simp] theorem State.respond_ch (s : State) (v : Word32) : (s.respond v).ch = s.ch := rfl
@[simp] theorem State.respond_sb (s : State) (v : Word32) : (s.respond v).sb = s.sb := rfl
@[simp] theorem State.respond_xfer (s : State) (v : Word32) : (s.respond v).xfer = s.xfer := rfl
@[simp] theorem State.respond_fifo (s : State) (v : Word32) : (s.respond v).fifo = s.fifo := rfl
@[simp] theorem State.respond_host (s : State) (v : Word32) : (s.respond v).host = .idle := rfl
@[simp] theorem State.respond_te (s : State) (v : Word32) : (s.respond v).te = s.te := rfl
@[simp] theorem State.respond_resp (s : State) (v : Word32) : (s.respond v).resp = v := rfl
@[simp] theorem State.respond_wire (s : State) (v : Word32) : (s.respond v).wire = s.wire := rfl
@[simp] theorem State.respond_fault (s : State) (v : Word32) : (s.respond v).fault = s.fault := rfl
@[simp] theorem State.respond_plat (s : State) (v : Word32) : (s.respond v).plat = s.plat := rfl
@[simp] theorem State.respond_port (s : State) (v : Word32) : (s.respond v).port = s.port := rfl
@[simp] theorem State.respond_sched (s : State) (v : Word32) : (s.respond v).sched = s.sched := rfl
@[simp] theorem State.respond_turn (s : State) (v : Word32) : (s.respond v).turn = s.turn := rfl
@[simp] theorem State.respond_draws (s : State) (v : Word32) : (s.respond v).draws = s.draws := rfl

/-! `withFault` -/

@[simp] theorem State.withFault_cfg (s : State) (f : Fault) : (s.withFault f).cfg = s.cfg := rfl
@[simp] theorem State.withFault_par (s : State) (f : Fault) : (s.withFault f).par = s.par := rfl
@[simp] theorem State.withFault_pb (s : State) (f : Fault) : (s.withFault f).pb = s.pb := rfl
@[simp] theorem State.withFault_bri (s : State) (f : Fault) : (s.withFault f).bri = s.bri := rfl
@[simp] theorem State.withFault_gen (s : State) (f : Fault) : (s.withFault f).gen = s.gen := rfl
@[simp] theorem State.withFault_gt (s : State) (f : Fault) : (s.withFault f).gt = s.gt := rfl
@[simp] theorem State.withFault_st (s : State) (f : Fault) : (s.withFault f).st = s.st := rfl
@[simp] theorem State.withFault_slot (s : State) (f : Fault) : (s.withFault f).slot = s.slot := rfl
@[simp] theorem State.withFault_ch (s : State) (f : Fault) : (s.withFault f).ch = s.ch := rfl
@[simp] theorem State.withFault_sb (s : State) (f : Fault) : (s.withFault f).sb = s.sb := rfl
@[simp] theorem State.withFault_xfer (s : State) (f : Fault) : (s.withFault f).xfer = s.xfer := rfl
@[simp] theorem State.withFault_fifo (s : State) (f : Fault) : (s.withFault f).fifo = s.fifo := rfl
@[simp] theorem State.withFault_host (s : State) (f : Fault) : (s.withFault f).host = s.host := rfl
@[simp] theorem State.withFault_te (s : State) (f : Fault) : (s.withFault f).te = s.te := rfl
@[simp] theorem State.withFault_resp (s : State) (f : Fault) : (s.withFault f).resp = s.resp := rfl
@[simp] theorem State.withFault_wire (s : State) (f : Fault) : (s.withFault f).wire = s.wire := rfl
@[simp] theorem State.withFault_fault (s : State) (f : Fault) : (s.withFault f).fault = some f := rfl
@[simp] theorem State.withFault_plat (s : State) (f : Fault) : (s.withFault f).plat = s.plat := rfl
@[simp] theorem State.withFault_port (s : State) (f : Fault) : (s.withFault f).port = s.port := rfl
@[simp] theorem State.withFault_sched (s : State) (f : Fault) : (s.withFault f).sched = s.sched := rfl
@[simp] theorem State.withFault_turn (s : State) (f : Fault) : (s.withFault f).turn = s.turn := rfl
@[simp] theorem State.withFault_draws (s : State) (f : Fault) : (s.withFault f).draws = s.draws := rfl

/-! `setPhase` -/

@[simp] theorem State.setPhase_cfg (s : State) (p : Phase) : (s.setPhase p).cfg = s.cfg := rfl
@[simp] theorem State.setPhase_par (s : State) (p : Phase) : (s.setPhase p).par = s.par := rfl
@[simp] theorem State.setPhase_pb (s : State) (p : Phase) : (s.setPhase p).pb = s.pb := rfl
@[simp] theorem State.setPhase_bri (s : State) (p : Phase) : (s.setPhase p).bri = s.bri := rfl
@[simp] theorem State.setPhase_gen (s : State) (p : Phase) : (s.setPhase p).gen = s.gen := rfl
@[simp] theorem State.setPhase_gt (s : State) (p : Phase) : (s.setPhase p).gt = s.gt := rfl
@[simp] theorem State.setPhase_st (s : State) (p : Phase) : (s.setPhase p).st = s.st := rfl
@[simp] theorem State.setPhase_slot (s : State) (p : Phase) : (s.setPhase p).slot = s.slot := rfl
@[simp] theorem State.setPhase_ch (s : State) (p : Phase) : (s.setPhase p).ch = s.ch := rfl
@[simp] theorem State.setPhase_sb (s : State) (p : Phase) : (s.setPhase p).sb = s.sb := rfl
@[simp] theorem State.setPhase_xfer (s : State) (p : Phase) : (s.setPhase p).xfer = s.xfer := rfl
@[simp] theorem State.setPhase_fifo (s : State) (p : Phase) : (s.setPhase p).fifo = s.fifo := rfl
@[simp] theorem State.setPhase_host (s : State) (p : Phase) : (s.setPhase p).host = p := rfl
@[simp] theorem State.setPhase_te (s : State) (p : Phase) : (s.setPhase p).te = s.te := rfl
@[simp] theorem State.setPhase_resp (s : State) (p : Phase) : (s.setPhase p).resp = s.resp := rfl
@[simp] theorem State.setPhase_wire (s : State) (p : Phase) : (s.setPhase p).wire = s.wire := rfl
@[simp] theorem State.setPhase_fault (s : State) (p : Phase) : (s.setPhase p).fault = s.fault := rfl
@[simp] theorem State.setPhase_plat (s : State) (p : Phase) : (s.setPhase p).plat = s.plat := rfl
@[simp] theorem State.setPhase_port (s : State) (p : Phase) : (s.setPhase p).port = s.port := rfl
@[simp] theorem State.setPhase_sched (s : State) (p : Phase) : (s.setPhase p).sched = s.sched := rfl
@[simp] theorem State.setPhase_turn (s : State) (p : Phase) : (s.setPhase p).turn = s.turn := rfl
@[simp] theorem State.setPhase_draws (s : State) (p : Phase) : (s.setPhase p).draws = s.draws := rfl

/-! `setEngine` -/

@[simp] theorem State.setEngine_cfg (s : State) (e : EngineState) : (s.setEngine e).cfg = s.cfg := rfl
@[simp] theorem State.setEngine_par (s : State) (e : EngineState) : (s.setEngine e).par = s.par := rfl
@[simp] theorem State.setEngine_pb (s : State) (e : EngineState) : (s.setEngine e).pb = s.pb := rfl
@[simp] theorem State.setEngine_bri (s : State) (e : EngineState) : (s.setEngine e).bri = s.bri := rfl
@[simp] theorem State.setEngine_gen (s : State) (e : EngineState) : (s.setEngine e).gen = s.gen := rfl
@[simp] theorem State.setEngine_gt (s : State) (e : EngineState) : (s.setEngine e).gt = s.gt := rfl
@[simp] theorem State.setEngine_st (s : State) (e : EngineState) : (s.setEngine e).st = e := rfl
@[simp] theorem State.setEngine_slot (s : State) (e : EngineState) : (s.setEngine e).slot = s.slot := rfl
@[simp] theorem State.setEngine_ch (s : State) (e : EngineState) : (s.setEngine e).ch = s.ch := rfl
@[simp] theorem State.setEngine_sb (s : State) (e : EngineState) : (s.setEngine e).sb = s.sb := rfl
@[simp] theorem State.setEngine_xfer (s : State) (e : EngineState) : (s.setEngine e).xfer = s.xfer := rfl
@[simp] theorem State.setEngine_fifo (s : State) (e : EngineState) : (s.setEngine e).fifo = s.fifo := rfl
@[simp] theorem State.setEngine_host (s : State) (e : EngineState) : (s.setEngine e).host = s.host := rfl
@[simp] theorem State.setEngine_te (s : State) (e : EngineState) : (s.setEngine e).te = s.te := rfl
@[simp] theorem State.setEngine_resp (s : State) (e : EngineState) : (s.setEngine e).resp = s.resp := rfl
@[simp] theorem State.setEngine_wire (s : State) (e : EngineState) : (s.setEngine e).wire = s.wire := rfl
@[simp] theorem State.setEngine_fault (s : State) (e : EngineState) : (s.setEngine e).fault = s.fault := rfl
@[simp] theorem State.setEngine_plat (s : State) (e : EngineState) : (s.setEngine e).plat = s.plat := rfl
@[simp] theorem State.setEngine_port (s : State) (e : EngineState) : (s.setEngine e).port = s.port := rfl
@[simp] theorem State.setEngine_sched (s : State) (e : EngineState) : (s.setEngine e).sched = s.sched := rfl
@[simp] theorem State.setEngine_turn (s : State) (e : EngineState) : (s.setEngine e).turn = s.turn := rfl
@[simp] theorem State.setEngine_draws (s : State) (e : EngineState) : (s.setEngine e).draws = s.draws := rfl

/-! `fillPB` -/

@[simp] theorem State.fillPB_cfg (s : State) (p : Pixel) : (s.fillPB p).cfg = s.cfg := rfl
@[simp] theorem State.fillPB_par (s : State) (p : Pixel) : (s.fillPB p).par = s.par := rfl
@[simp] theorem State.fillPB_pb (s : State) (p : Pixel) : (s.fillPB p).pb = List.replicate s.cfg.n p := rfl
@[simp] theorem State.fillPB_bri (s : State) (p : Pixel) : (s.fillPB p).bri = s.bri := rfl
@[simp] theorem State.fillPB_gen (s : State) (p : Pixel) : (s.fillPB p).gen = s.gen := rfl
@[simp] theorem State.fillPB_gt (s : State) (p : Pixel) : (s.fillPB p).gt = s.gt := rfl
@[simp] theorem State.fillPB_st (s : State) (p : Pixel) : (s.fillPB p).st = s.st := rfl
@[simp] theorem State.fillPB_slot (s : State) (p : Pixel) : (s.fillPB p).slot = s.slot := rfl
@[simp] theorem State.fillPB_ch (s : State) (p : Pixel) : (s.fillPB p).ch = s.ch := rfl
@[simp] theorem State.fillPB_sb (s : State) (p : Pixel) : (s.fillPB p).sb = s.sb := rfl
@[simp] theorem State.fillPB_xfer (s : State) (p : Pixel) : (s.fillPB p).xfer = s.xfer := rfl
@[simp] theorem State.fillPB_fifo (s : State) (p : Pixel) : (s.fillPB p).fifo = s.fifo := rfl
@[simp] theorem State.fillPB_host (s : State) (p : Pixel) : (s.fillPB p).host = s.host := rfl
@[simp] theorem State.fillPB_te (s : State) (p : Pixel) : (s.fillPB p).te = s.te := rfl
@[simp] theorem State.fillPB_resp (s : State) (p : Pixel) : (s.fillPB p).resp = s.resp := rfl
@[simp] theorem State.fillPB_wire (s : State) (p : Pixel) : (s.fillPB p).wire = s.wire := rfl
@[simp] theorem State.fillPB_fault (s : State) (p : Pixel) : (s.fillPB p).fault = s.fault := rfl
@[simp] theorem State.fillPB_plat (s : State) (p : Pixel) : (s.fillPB p).plat = s.plat := rfl
@[simp] theorem State.fillPB_port (s : State) (p : Pixel) : (s.fillPB p).port = s.port := rfl
@[simp] theorem State.fillPB_sched (s : State) (p : Pixel) : (s.fillPB p).sched = s.sched := rfl
@[simp] theorem State.fillPB_turn (s : State) (p : Pixel) : (s.fillPB p).turn = s.turn := rfl
@[simp] theorem State.fillPB_draws (s : State) (p : Pixel) : (s.fillPB p).draws = s.draws := rfl

/-! `writePB` -/

@[simp] theorem State.writePB_cfg (s : State) (i : Nat) (p : Pixel) : (s.writePB i p).cfg = s.cfg := rfl
@[simp] theorem State.writePB_par (s : State) (i : Nat) (p : Pixel) : (s.writePB i p).par = s.par := rfl
@[simp] theorem State.writePB_pb (s : State) (i : Nat) (p : Pixel) : (s.writePB i p).pb = s.pb.set i p := rfl
@[simp] theorem State.writePB_bri (s : State) (i : Nat) (p : Pixel) : (s.writePB i p).bri = s.bri := rfl
@[simp] theorem State.writePB_gen (s : State) (i : Nat) (p : Pixel) : (s.writePB i p).gen = s.gen := rfl
@[simp] theorem State.writePB_gt (s : State) (i : Nat) (p : Pixel) : (s.writePB i p).gt = s.gt := rfl
@[simp] theorem State.writePB_st (s : State) (i : Nat) (p : Pixel) : (s.writePB i p).st = s.st := rfl
@[simp] theorem State.writePB_slot (s : State) (i : Nat) (p : Pixel) : (s.writePB i p).slot = s.slot := rfl
@[simp] theorem State.writePB_ch (s : State) (i : Nat) (p : Pixel) : (s.writePB i p).ch = s.ch := rfl
@[simp] theorem State.writePB_sb (s : State) (i : Nat) (p : Pixel) : (s.writePB i p).sb = s.sb := rfl
@[simp] theorem State.writePB_xfer (s : State) (i : Nat) (p : Pixel) : (s.writePB i p).xfer = s.xfer := rfl
@[simp] theorem State.writePB_fifo (s : State) (i : Nat) (p : Pixel) : (s.writePB i p).fifo = s.fifo := rfl
@[simp] theorem State.writePB_host (s : State) (i : Nat) (p : Pixel) : (s.writePB i p).host = s.host := rfl
@[simp] theorem State.writePB_te (s : State) (i : Nat) (p : Pixel) : (s.writePB i p).te = s.te := rfl
@[simp] theorem State.writePB_resp (s : State) (i : Nat) (p : Pixel) : (s.writePB i p).resp = s.resp := rfl
@[simp] theorem State.writePB_wire (s : State) (i : Nat) (p : Pixel) : (s.writePB i p).wire = s.wire := rfl
@[simp] theorem State.writePB_fault (s : State) (i : Nat) (p : Pixel) : (s.writePB i p).fault = s.fault := rfl
@[simp] theorem State.writePB_plat (s : State) (i : Nat) (p : Pixel) : (s.writePB i p).plat = s.plat := rfl
@[simp] theorem State.writePB_port (s : State) (i : Nat) (p : Pixel) : (s.writePB i p).port = s.port := rfl
@[simp] theorem State.writePB_sched (s : State) (i : Nat) (p : Pixel) : (s.writePB i p).sched = s.sched := rfl
@[simp] theorem State.writePB_turn (s : State) (i : Nat) (p : Pixel) : (s.writePB i p).turn = s.turn := rfl
@[simp] theorem State.writePB_draws (s : State) (i : Nat) (p : Pixel) : (s.writePB i p).draws = s.draws := rfl

/-! `writeSB` -/

@[simp] theorem State.writeSB_cfg (s : State) (ws : List Word32) : (s.writeSB ws).cfg = s.cfg := rfl
@[simp] theorem State.writeSB_par (s : State) (ws : List Word32) : (s.writeSB ws).par = s.par := rfl
@[simp] theorem State.writeSB_pb (s : State) (ws : List Word32) : (s.writeSB ws).pb = s.pb := rfl
@[simp] theorem State.writeSB_bri (s : State) (ws : List Word32) : (s.writeSB ws).bri = s.bri := rfl
@[simp] theorem State.writeSB_gen (s : State) (ws : List Word32) : (s.writeSB ws).gen = s.gen := rfl
@[simp] theorem State.writeSB_gt (s : State) (ws : List Word32) : (s.writeSB ws).gt = s.gt := rfl
@[simp] theorem State.writeSB_st (s : State) (ws : List Word32) : (s.writeSB ws).st = s.st := rfl
@[simp] theorem State.writeSB_slot (s : State) (ws : List Word32) : (s.writeSB ws).slot = s.slot := rfl
@[simp] theorem State.writeSB_ch (s : State) (ws : List Word32) : (s.writeSB ws).ch = s.ch := rfl
@[simp] theorem State.writeSB_sb (s : State) (ws : List Word32) : (s.writeSB ws).sb = ws := rfl
@[simp] theorem State.writeSB_xfer (s : State) (ws : List Word32) : (s.writeSB ws).xfer = s.xfer := rfl
@[simp] theorem State.writeSB_fifo (s : State) (ws : List Word32) : (s.writeSB ws).fifo = s.fifo := rfl
@[simp] theorem State.writeSB_host (s : State) (ws : List Word32) : (s.writeSB ws).host = s.host := rfl
@[simp] theorem State.writeSB_te (s : State) (ws : List Word32) : (s.writeSB ws).te = s.te := rfl
@[simp] theorem State.writeSB_resp (s : State) (ws : List Word32) : (s.writeSB ws).resp = s.resp := rfl
@[simp] theorem State.writeSB_wire (s : State) (ws : List Word32) : (s.writeSB ws).wire = s.wire := rfl
@[simp] theorem State.writeSB_fault (s : State) (ws : List Word32) : (s.writeSB ws).fault = s.fault := rfl
@[simp] theorem State.writeSB_plat (s : State) (ws : List Word32) : (s.writeSB ws).plat = s.plat := rfl
@[simp] theorem State.writeSB_port (s : State) (ws : List Word32) : (s.writeSB ws).port = s.port := rfl
@[simp] theorem State.writeSB_sched (s : State) (ws : List Word32) : (s.writeSB ws).sched = s.sched := rfl
@[simp] theorem State.writeSB_turn (s : State) (ws : List Word32) : (s.writeSB ws).turn = s.turn := rfl
@[simp] theorem State.writeSB_draws (s : State) (ws : List Word32) : (s.writeSB ws).draws = s.draws := rfl

/-! `encodeFrame` -/

@[simp] theorem State.encodeFrame_cfg (s : State) : (s.encodeFrame).cfg = s.cfg := rfl
@[simp] theorem State.encodeFrame_par (s : State) : (s.encodeFrame).par = s.par := rfl
@[simp] theorem State.encodeFrame_pb (s : State) : (s.encodeFrame).pb = s.pb := rfl
@[simp] theorem State.encodeFrame_bri (s : State) : (s.encodeFrame).bri = s.bri := rfl
@[simp] theorem State.encodeFrame_gen (s : State) : (s.encodeFrame).gen = s.gen := rfl
@[simp] theorem State.encodeFrame_gt (s : State) : (s.encodeFrame).gt = s.gt := rfl
@[simp] theorem State.encodeFrame_st (s : State) : (s.encodeFrame).st = s.st := rfl
@[simp] theorem State.encodeFrame_slot (s : State) : (s.encodeFrame).slot = s.slot := rfl
@[simp] theorem State.encodeFrame_ch (s : State) : (s.encodeFrame).ch = s.ch := rfl
@[simp] theorem State.encodeFrame_sb (s : State) : (s.encodeFrame).sb = s.frameWords := rfl
@[simp] theorem State.encodeFrame_xfer (s : State) : (s.encodeFrame).xfer = s.xfer := rfl
@[simp] theorem State.encodeFrame_fifo (s : State) : (s.encodeFrame).fifo = s.fifo := rfl
@[simp] theorem State.encodeFrame_host (s : State) : (s.encodeFrame).host = s.host := rfl
@[simp] theorem State.encodeFrame_te (s : State) : (s.encodeFrame).te = s.te := rfl
@[simp] theorem State.encodeFrame_resp (s : State) : (s.encodeFrame).resp = s.resp := rfl
@[simp] theorem State.encodeFrame_wire (s : State) : (s.encodeFrame).wire = s.wire := rfl
@[simp] theorem State.encodeFrame_fault (s : State) : (s.encodeFrame).fault = s.fault := rfl
@[simp] theorem State.encodeFrame_plat (s : State) : (s.encodeFrame).plat = s.plat := rfl
@[simp] theorem State.encodeFrame_port (s : State) : (s.encodeFrame).port = s.port := rfl
@[simp] theorem State.encodeFrame_sched (s : State) : (s.encodeFrame).sched = s.sched := rfl
@[simp] theorem State.encodeFrame_turn (s : State) : (s.encodeFrame).turn = s.turn := rfl
@[simp] theorem State.encodeFrame_draws (s : State) : (s.encodeFrame).draws = s.draws := rfl

/-! `setBri` -/

@[simp] theorem State.setBri_cfg (s : State) (b : Byte) : (s.setBri b).cfg = s.cfg := rfl
@[simp] theorem State.setBri_par (s : State) (b : Byte) : (s.setBri b).par = s.par := rfl
@[simp] theorem State.setBri_pb (s : State) (b : Byte) : (s.setBri b).pb = s.pb := rfl
@[simp] theorem State.setBri_bri (s : State) (b : Byte) : (s.setBri b).bri = b := rfl
@[simp] theorem State.setBri_gen (s : State) (b : Byte) : (s.setBri b).gen = s.gen := rfl
@[simp] theorem State.setBri_gt (s : State) (b : Byte) : (s.setBri b).gt = s.gt := rfl
@[simp] theorem State.setBri_st (s : State) (b : Byte) : (s.setBri b).st = s.st := rfl
@[simp] theorem State.setBri_slot (s : State) (b : Byte) : (s.setBri b).slot = s.slot := rfl
@[simp] theorem State.setBri_ch (s : State) (b : Byte) : (s.setBri b).ch = s.ch := rfl
@[simp] theorem State.setBri_sb (s : State) (b : Byte) : (s.setBri b).sb = s.sb := rfl
@[simp] theorem State.setBri_xfer (s : State) (b : Byte) : (s.setBri b).xfer = s.xfer := rfl
@[simp] theorem State.setBri_fifo (s : State) (b : Byte) : (s.setBri b).fifo = s.fifo := rfl
@[simp] theorem State.setBri_host (s : State) (b : Byte) : (s.setBri b).host = s.host := rfl
@[simp] theorem State.setBri_te (s : State) (b : Byte) : (s.setBri b).te = s.te := rfl
@[simp] theorem State.setBri_resp (s : State) (b : Byte) : (s.setBri b).resp = s.resp := rfl
@[simp] theorem State.setBri_wire (s : State) (b : Byte) : (s.setBri b).wire = s.wire := rfl
@[simp] theorem State.setBri_fault (s : State) (b : Byte) : (s.setBri b).fault = s.fault := rfl
@[simp] theorem State.setBri_plat (s : State) (b : Byte) : (s.setBri b).plat = s.plat := rfl
@[simp] theorem State.setBri_port (s : State) (b : Byte) : (s.setBri b).port = s.port := rfl
@[simp] theorem State.setBri_sched (s : State) (b : Byte) : (s.setBri b).sched = s.sched := rfl
@[simp] theorem State.setBri_turn (s : State) (b : Byte) : (s.setBri b).turn = s.turn := rfl
@[simp] theorem State.setBri_draws (s : State) (b : Byte) : (s.setBri b).draws = s.draws := rfl

/-! `setGamma` -/

@[simp] theorem State.setGamma_cfg (s : State) (on : Bool) : (s.setGamma on).cfg = s.cfg := rfl
@[simp] theorem State.setGamma_par (s : State) (on : Bool) : (s.setGamma on).par = s.par := rfl
@[simp] theorem State.setGamma_pb (s : State) (on : Bool) : (s.setGamma on).pb = s.pb := rfl
@[simp] theorem State.setGamma_bri (s : State) (on : Bool) : (s.setGamma on).bri = s.bri := rfl
@[simp] theorem State.setGamma_gen (s : State) (on : Bool) : (s.setGamma on).gen = on := rfl
@[simp] theorem State.setGamma_gt (s : State) (on : Bool) : (s.setGamma on).gt = if on then s.par.gammaCurve else identityGamma := rfl
@[simp] theorem State.setGamma_st (s : State) (on : Bool) : (s.setGamma on).st = s.st := rfl
@[simp] theorem State.setGamma_slot (s : State) (on : Bool) : (s.setGamma on).slot = s.slot := rfl
@[simp] theorem State.setGamma_ch (s : State) (on : Bool) : (s.setGamma on).ch = s.ch := rfl
@[simp] theorem State.setGamma_sb (s : State) (on : Bool) : (s.setGamma on).sb = s.sb := rfl
@[simp] theorem State.setGamma_xfer (s : State) (on : Bool) : (s.setGamma on).xfer = s.xfer := rfl
@[simp] theorem State.setGamma_fifo (s : State) (on : Bool) : (s.setGamma on).fifo = s.fifo := rfl
@[simp] theorem State.setGamma_host (s : State) (on : Bool) : (s.setGamma on).host = s.host := rfl
@[simp] theorem State.setGamma_te (s : State) (on : Bool) : (s.setGamma on).te = s.te := rfl
@[simp] theorem State.setGamma_resp (s : State) (on : Bool) : (s.setGamma on).resp = s.resp := rfl
@[simp] theorem State.setGamma_wire (s : State) (on : Bool) : (s.setGamma on).wire = s.wire := rfl
@[simp] theorem State.setGamma_fault (s : State) (on : Bool) : (s.setGamma on).fault = s.fault := rfl
@[simp] theorem State.setGamma_plat (s : State) (on : Bool) : (s.setGamma on).plat = s.plat := rfl
@[simp] theorem State.setGamma_port (s : State) (on : Bool) : (s.setGamma on).port = s.port := rfl
@[simp] theorem State.setGamma_sched (s : State) (on : Bool) : (s.setGamma on).sched = s.sched := rfl
@[simp] theorem State.setGamma_turn (s : State) (on : Bool) : (s.setGamma on).turn = s.turn := rfl
@[simp] theorem State.setGamma_draws (s : State) (on : Bool) : (s.setGamma on).draws = s.draws := rfl

/-! `pushFifo` -/

@[simp] theorem State.pushFifo_cfg (s : State) (w : Word32) : (s.pushFifo w).cfg = s.cfg := rfl
@[simp] theorem State.pushFifo_par (s : State) (w : Word32) : (s.pushFifo w).par = s.par := rfl
@[simp] theorem State.pushFifo_pb (s : State) (w : Word32) : (s.pushFifo w).pb = s.pb := rfl
@[simp] theorem State.pushFifo_bri (s : State) (w : Word32) : (s.pushFifo w).bri = s.bri := rfl
@[simp] theorem State.pushFifo_gen (s : State) (w : Word32) : (s.pushFifo w).gen = s.gen := rfl
@[simp] theorem State.pushFifo_gt (s : State) (w : Word32) : (s.pushFifo w).gt = s.gt := rfl
@[simp] theorem State.pushFifo_st (s : State) (w : Word32) : (s.pushFifo w).st = s.st := rfl
@[simp] theorem State.pushFifo_slot (s : State) (w : Word32) : (s.pushFifo w).slot = s.slot := rfl
@[simp] theorem State.pushFifo_ch (s : State) (w : Word32) : (s.pushFifo w).ch = s.ch := rfl
@[simp] theorem State.pushFifo_sb (s : State) (w : Word32) : (s.pushFifo w).sb = s.sb := rfl
@[simp] theorem State.pushFifo_xfer (s : State) (w : Word32) : (s.pushFifo w).xfer = s.xfer := rfl
@[simp] theorem State.pushFifo_fifo (s : State) (w : Word32) : (s.pushFifo w).fifo = s.fifo ++ [w] := rfl
@[simp] theorem State.pushFifo_host (s : State) (w : Word32) : (s.pushFifo w).host = s.host := rfl
@[simp] theorem State.pushFifo_te (s : State) (w : Word32) : (s.pushFifo w).te = s.te := rfl
@[simp] theorem State.pushFifo_resp (s : State) (w : Word32) : (s.pushFifo w).resp = s.resp := rfl
@[simp] theorem State.pushFifo_wire (s : State) (w : Word32) : (s.pushFifo w).wire = s.wire := rfl
@[simp] theorem State.pushFifo_fault (s : State) (w : Word32) : (s.pushFifo w).fault = s.fault := rfl
@[simp] theorem State.pushFifo_plat (s : State) (w : Word32) : (s.pushFifo w).plat = s.plat := rfl
@[simp] theorem State.pushFifo_port (s : State) (w : Word32) : (s.pushFifo w).port = s.port := rfl
@[simp] theorem State.pushFifo_sched (s : State) (w : Word32) : (s.pushFifo w).sched = s.sched := rfl
@[simp] theorem State.pushFifo_turn (s : State) (w : Word32) : (s.pushFifo w).turn = s.turn := rfl
@[simp] theorem State.pushFifo_draws (s : State) (w : Word32) : (s.pushFifo w).draws = s.draws := rfl

/-! `setFifo` -/

@[simp] theorem State.setFifo_cfg (s : State) (q : List Word32) : (s.setFifo q).cfg = s.cfg := rfl
@[simp] theorem State.setFifo_par (s : State) (q : List Word32) : (s.setFifo q).par = s.par := rfl
@[simp] theorem State.setFifo_pb (s : State) (q : List Word32) : (s.setFifo q).pb = s.pb := rfl
@[simp] theorem State.setFifo_bri (s : State) (q : List Word32) : (s.setFifo q).bri = s.bri := rfl
@[simp] theorem State.setFifo_gen (s : State) (q : List Word32) : (s.setFifo q).gen = s.gen := rfl
@[simp] theorem State.setFifo_gt (s : State) (q : List Word32) : (s.setFifo q).gt = s.gt := rfl
@[simp] theorem State.setFifo_st (s : State) (q : List Word32) : (s.setFifo q).st = s.st := rfl
@[simp] theorem State.setFifo_slot (s : State) (q : List Word32) : (s.setFifo q).slot = s.slot := rfl
@[simp] theorem State.setFifo_ch (s : State) (q : List Word32) : (s.setFifo q).ch = s.ch := rfl
@[simp] theorem State.setFifo_sb (s : State) (q : List Word32) : (s.setFifo q).sb = s.sb := rfl
@[simp] theorem State.setFifo_xfer (s : State) (q : List Word32) : (s.setFifo q).xfer = s.xfer := rfl
@[simp] theorem State.setFifo_fifo (s : State) (q : List Word32) : (s.setFifo q).fifo = q := rfl
@[simp] theorem State.setFifo_host (s : State) (q : List Word32) : (s.setFifo q).host = s.host := rfl
@[simp] theorem State.setFifo_te (s : State) (q : List Word32) : (s.setFifo q).te = s.te := rfl
@[simp] theorem State.setFifo_resp (s : State) (q : List Word32) : (s.setFifo q).resp = s.resp := rfl
@[simp] theorem State.setFifo_wire (s : State) (q : List Word32) : (s.setFifo q).wire = s.wire := rfl
@[simp] theorem State.setFifo_fault (s : State) (q : List Word32) : (s.setFifo q).fault = s.fault := rfl
@[simp] theorem State.setFifo_plat (s : State) (q : List Word32) : (s.setFifo q).plat = s.plat := rfl
@[simp] theorem State.setFifo_port (s : State) (q : List Word32) : (s.setFifo q).port = s.port := rfl
@[simp] theorem State.setFifo_sched (s : State) (q : List Word32) : (s.setFifo q).sched = s.sched := rfl
@[simp] theorem State.setFifo_turn (s : State) (q : List Word32) : (s.setFifo q).turn = s.turn := rfl
@[simp] theorem State.setFifo_draws (s : State) (q : List Word32) : (s.setFifo q).draws = s.draws := rfl

/-! `logWire` -/

@[simp] theorem State.logWire_cfg (s : State) (e : Event) : (s.logWire e).cfg = s.cfg := rfl
@[simp] theorem State.logWire_par (s : State) (e : Event) : (s.logWire e).par = s.par := rfl
@[simp] theorem State.logWire_pb (s : State) (e : Event) : (s.logWire e).pb = s.pb := rfl
@[simp] theorem State.logWire_bri (s : State) (e : Event) : (s.logWire e).bri = s.bri := rfl
@[simp] theorem State.logWire_gen (s : State) (e : Event) : (s.logWire e).gen = s.gen := rfl
@[simp] theorem State.logWire_gt (s : State) (e : Event) : (s.logWire e).gt = s.gt := rfl
@[simp] theorem State.logWire_st (s : State) (e : Event) : (s.logWire e).st = s.st := rfl
@[simp] theorem State.logWire_slot (s : State) (e : Event) : (s.logWire e).slot = s.slot := rfl
@[simp] theorem State.logWire_ch (s : State) (e : Event) : (s.logWire e).ch = s.ch := rfl
@[simp] theorem State.logWire_sb (s : State) (e : Event) : (s.logWire e).sb = s.sb := rfl
@[simp] theorem State.logWire_xfer (s : State) (e : Event) : (s.logWire e).xfer = s.xfer := rfl
@[simp] theorem State.logWire_fifo (s : State) (e : Event) : (s.logWire e).fifo = s.fifo := rfl
@[simp] theorem State.logWire_host (s : State) (e : Event) : (s.logWire e).host = s.host := rfl
@[simp] theorem State.logWire_te (s : State) (e : Event) : (s.logWire e).te = s.te := rfl
@[simp] theorem State.logWire_resp (s : State) (e : Event) : (s.logWire e).resp = s.resp := rfl
@[simp] theorem State.logWire_wire (s : State) (e : Event) : (s.logWire e).wire = s.wire ++ [e] := rfl
@[simp] theorem State.logWire_fault (s : State) (e : Event) : (s.logWire e).fault = s.fault := rfl
@[simp] theorem State.logWire_plat (s : State) (e : Event) : (s.logWire e).plat = s.plat := rfl
@[simp] theorem State.logWire_port (s : State) (e : Event) : (s.logWire e).port = s.port := rfl
@[simp] theorem State.logWire_sched (s : State) (e : Event) : (s.logWire e).sched = s.sched := rfl
@[simp] theorem State.logWire_turn (s : State) (e : Event) : (s.logWire e).turn = s.turn := rfl
@[simp] theorem State.logWire_draws (s : State) (e : Event) : (s.logWire e).draws = s.draws := rfl

/-! `setXfer` -/

@[simp] theorem State.setXfer_cfg (s : State) (x : Xfer) : (s.setXfer x).cfg = s.cfg := rfl
@[simp] theorem State.setXfer_par (s : State) (x : Xfer) : (s.setXfer x).par = s.par := rfl
@[simp] theorem State.setXfer_pb (s : State) (x : Xfer) : (s.setXfer x).pb = s.pb := rfl
@[simp] theorem State.setXfer_bri (s : State) (x : Xfer) : (s.setXfer x).bri = s.bri := rfl
@[simp] theorem State.setXfer_gen (s : State) (x : Xfer) : (s.setXfer x).gen = s.gen := rfl
@[simp] theorem State.setXfer_gt (s : State) (x : Xfer) : (s.setXfer x).gt = s.gt := rfl
@[simp] theorem State.setXfer_st (s : State) (x : Xfer) : (s.setXfer x).st = s.st := rfl
@[simp] theorem State.setXfer_slot (s : State) (x : Xfer) : (s.setXfer x).slot = s.slot := rfl
@[simp] theorem State.setXfer_ch (s : State) (x : Xfer) : (s.setXfer x).ch = s.ch := rfl
@[simp] theorem State.setXfer_sb (s : State) (x : Xfer) : (s.setXfer x).sb = s.sb := rfl
@[simp] theorem State.setXfer_xfer (s : State) (x : Xfer) : (s.setXfer x).xfer = x := rfl
@[simp] theorem State.setXfer_fifo (s : State) (x : Xfer) : (s.setXfer x).fifo = s.fifo := rfl
@[simp] theorem State.setXfer_host (s : State) (x : Xfer) : (s.setXfer x).host = s.host := rfl
@[simp] theorem State.setXfer_te (s : State) (x : Xfer) : (s.setXfer x).te = s.te := rfl
@[simp] theorem State.setXfer_resp (s : State) (x : Xfer) : (s.setXfer x).resp = s.resp := rfl
@[simp] theorem State.setXfer_wire (s : State) (x : Xfer) : (s.setXfer x).wire = s.wire := rfl
@[simp] theorem State.setXfer_fault (s : State) (x : Xfer) : (s.setXfer x).fault = s.fault := rfl
@[simp] theorem State.setXfer_plat (s : State) (x : Xfer) : (s.setXfer x).plat = s.plat := rfl
@[simp] theorem State.setXfer_port (s : State) (x : Xfer) : (s.setXfer x).port = s.port := rfl
@[simp] theorem State.setXfer_sched (s : State) (x : Xfer) : (s.setXfer x).sched = s.sched := rfl
@[simp] theorem State.setXfer_turn (s : State) (x : Xfer) : (s.setXfer x).turn = s.turn := rfl
@[simp] theorem State.setXfer_draws (s : State) (x : Xfer) : (s.setXfer x).draws = s.draws := rfl

/-! `startXfer` -/

@[simp] theorem State.startXfer_cfg (s : State) : (s.startXfer).cfg = s.cfg := rfl
@[simp] theorem State.startXfer_par (s : State) : (s.startXfer).par = s.par := rfl
@[simp] theorem State.startXfer_pb (s : State) : (s.startXfer).pb = s.pb := rfl
@[simp] theorem State.startXfer_bri (s : State) : (s.startXfer).bri = s.bri := rfl
@[simp] theorem State.startXfer_gen (s : State) : (s.startXfer).gen = s.gen := rfl
@[simp] theorem State.startXfer_gt (s : State) : (s.startXfer).gt = s.gt := rfl
@[simp] theorem State.startXfer_st (s : State) : (s.startXfer).st = s.st := rfl
@[simp] theorem State.startXfer_slot (s : State) : (s.startXfer).slot = s.slot := rfl
@[simp] theorem State.startXfer_ch (s : State) : (s.startXfer).ch = s.ch := rfl
@[simp] theorem State.startXfer_sb (s : State) : (s.startXfer).sb = s.sb := rfl
@[simp] theorem State.startXfer_xfer (s : State) : (s.startXfer).xfer = ⟨true, 0, BitVec.ofNat 24 s.cfg.n, s.xfer.conf⟩ := rfl
@[simp] theorem State.startXfer_fifo (s : State) : (s.startXfer).fifo = s.fifo := rfl
@[simp] theorem State.startXfer_host (s : State) : (s.startXfer).host = s.host := rfl
@[simp] theorem State.startXfer_te (s : State) : (s.startXfer).te = s.te := rfl
@[simp] theorem State.startXfer_resp (s : State) : (s.startXfer).resp = s.resp := rfl
@[simp] theorem State.startXfer_wire (s : State) : (s.startXfer).wire = s.wire := rfl
@[simp] theorem State.startXfer_fault (s : State) : (s.startXfer).fault = s.fault := rfl
@[simp] theorem State.startXfer_plat (s : State) : (s.startXfer).plat = s.plat := rfl
@[simp] theorem State.startXfer_port (s : State) : (s.startXfer).port = s.port := rfl
@[simp] theorem State.startXfer_sched (s : State) : (s.startXfer).sched = s.sched := rfl
@[simp] theorem State.startXfer_turn (s : State) : (s.startXfer).turn = s.turn := rfl
@[simp] theorem State.startXfer_draws (s : State) : (s.startXfer).draws = s.draws := rfl

/-! `abortXfer` -/

@[simp] theorem State.abortXfer_cfg (s : State) : (s.abortXfer).cfg = s.cfg := rfl
@[simp] theorem State.abortXfer_par (s : State) : (s.abortXfer).par = s.par := rfl
@[simp] theorem State.abortXfer_pb (s : State) : (s.abortXfer).pb = s.pb := rfl
@[simp] theorem State.abortXfer_bri (s : State) : (s.abortXfer).bri = s.bri := rfl
@[simp] theorem State.abortXfer_gen (s : State) : (s.abortXfer).gen = s.gen := rfl
@[simp] theorem State.abortXfer_gt (s : State) : (s.abortXfer).gt = s.gt := rfl
@[simp] theorem State.abortXfer_st (s : State) : (s.abortXfer).st = s.st := rfl
@[simp] theorem State.abortXfer_slot (s : State) : (s.abortXfer).slot = s.slot := rfl
@[simp] theorem State.abortXfer_ch (s : State) : (s.abortXfer).ch = s.ch := rfl
@[simp] theorem State.abortXfer_sb (s : State) : (s.abortXfer).sb = s.sb := rfl
@[simp] theorem State.abortXfer_xfer (s : State) : (s.abortXfer).xfer = ⟨false, 0, 0, s.xfer.conf⟩ := rfl
@[simp] theorem State.abortXfer_fifo (s : State) : (s.abortXfer).fifo = s.fifo := rfl
@[simp] theorem State.abortXfer_host (s : State) : (s.abortXfer).host = s.host := rfl
@[simp] theorem State.abortXfer_te (s : State) : (s.abortXfer).te = s.te := rfl
@[simp] theorem State.abortXfer_resp (s : State) : (s.abortXfer).resp = s.resp := rfl
@[simp] theorem State.abortXfer_wire (s : State) : (s.abortXfer).wire = s.wire := rfl
@[simp] theorem State.abortXfer_fault (s : State) : (s.abortXfer).fault = s.fault := rfl
@[simp] theorem State.abortXfer_plat (s : State) : (s.abortXfer).plat = s.plat := rfl
@[simp] theorem State.abortXfer_port (s : State) : (s.abortXfer).port = s.port := rfl
@[simp] theorem State.abortXfer_sched (s : State) : (s.abortXfer).sched = s.sched := rfl
@[simp] theorem State.abortXfer_turn (s : State) : (s.abortXfer).turn = s.turn := rfl
@[simp] theorem State.abortXfer_draws (s : State) : (s.abortXfer).draws = s.draws := rfl

/-! `setPlat` -/

@[simp] theorem State.setPlat_cfg (s : State) (x : Plat) : (s.setPlat x).cfg = s.cfg := rfl
@[simp] theorem State.setPlat_par (s : State) (x : Plat) : (s.setPlat x).par = s.par := rfl
@[simp] theorem State.setPlat_pb (s : State) (x : Plat) : (s.setPlat x).pb = s.pb := rfl
@[simp] theorem State.setPlat_bri (s : State) (x : Plat) : (s.setPlat x).bri = s.bri := rfl
@[simp] theorem State.setPlat_gen (s : State) (x : Plat) : (s.setPlat x).gen = s.gen := rfl
@[simp] theorem State.setPlat_gt (s : State) (x : Plat) : (s.setPlat x).gt = s.gt := rfl
@[simp] theorem State.setPlat_st (s : State) (x : Plat) : (s.setPlat x).st = s.st := rfl
@[simp] theorem State.setPlat_slot (s : State) (x : Plat) : (s.setPlat x).slot = s.slot := rfl
@[simp] theorem State.setPlat_ch (s : State) (x : Plat) : (s.setPlat x).ch = s.ch := rfl
@[simp] theorem State.setPlat_sb (s : State) (x : Plat) : (s.setPlat x).sb = s.sb := rfl
@[simp] theorem State.setPlat_xfer (s : State) (x : Plat) : (s.setPlat x).xfer = s.xfer := rfl
@[simp] theorem State.setPlat_fifo (s : State) (x : Plat) : (s.setPlat x).fifo = s.fifo := rfl
@[simp] theorem State.setPlat_host (s : State) (x : Plat) : (s.setPlat x).host = s.host := rfl
@[simp] theorem State.setPlat_te (s : State) (x : Plat) : (s.setPlat x).te = s.te := rfl
@[simp] theorem State.setPlat_resp (s : State) (x : Plat) : (s.setPlat x).resp = s.resp := rfl
@[simp] theorem State.setPlat_wire (s : State) (x : Plat) : (s.setPlat x).wire = s.wire := rfl
@[simp] theorem State.setPlat_fault (s : State) (x : Plat) : (s.setPlat x).fault = s.fault := rfl
@[simp] theorem State.setPlat_plat (s : State) (x : Plat) : (s.setPlat x).plat = x := rfl
@[simp] theorem State.setPlat_port (s : State) (x : Plat) : (s.setPlat x).port = s.port := rfl
@[simp] theorem State.setPlat_sched (s : State) (x : Plat) : (s.setPlat x).sched = s.sched := rfl
@[simp] theorem State.setPlat_turn (s : State) (x : Plat) : (s.setPlat x).turn = s.turn := rfl
@[simp] theorem State.setPlat_draws (s : State) (x : Plat) : (s.setPlat x).draws = s.draws := rfl

/-! `setDraws` -/

@[simp] theorem State.setDraws_cfg (s : State) (d : Nat) : (s.setDraws d).cfg = s.cfg := rfl
@[simp] theorem State.setDraws_par (s : State) (d : Nat) : (s.setDraws d).par = s.par := rfl
@[simp] theorem State.setDraws_pb (s : State) (d : Nat) : (s.setDraws d).pb = s.pb := rfl
@[simp] theorem State.setDraws_bri (s : State) (d : Nat) : (s.setDraws d).bri = s.bri := rfl
@[simp] theorem State.setDraws_gen (s : State) (d : Nat) : (s.setDraws d).gen = s.gen := rfl
@[simp] theorem State.setDraws_gt (s : State) (d : Nat) : (s.setDraws d).gt = s.gt := rfl
@[simp] theorem State.setDraws_st (s : State) (d : Nat) : (s.setDraws d).st = s.st := rfl
@[simp] theorem State.setDraws_slot (s : State) (d : Nat) : (s.setDraws d).slot = s.slot := rfl
@[simp] theorem State.setDraws_ch (s : State) (d : Nat) : (s.setDraws d).ch = s.ch := rfl
@[simp] theorem State.setDraws_sb (s : State) (d : Nat) : (s.setDraws d).sb = s.sb := rfl
@[simp] theorem State.setDraws_xfer (s : State) (d : Nat) : (s.setDraws d).xfer = s.xfer := rfl
@[simp] theorem State.setDraws_fifo (s : State) (d : Nat) : (s.setDraws d).fifo = s.fifo := rfl
@[simp] theorem State.setDraws_host (s : State) (d : Nat) : (s.setDraws d).host = s.host := rfl
@[simp] theorem State.setDraws_te (s : State) (d : Nat) : (s.setDraws d).te = s.te := rfl
@[simp] theorem State.setDraws_resp (s : State) (d : Nat) : (s.setDraws d).resp = s.resp := rfl
@[simp] theorem State.setDraws_wire (s : State) (d : Nat) : (s.setDraws d).wire = s.wire := rfl
@[simp] theorem State.setDraws_fault (s : State) (d : Nat) : (s.setDraws d).fault = s.fault := rfl
@[simp] theorem State.setDraws_plat (s : State) (d : Nat) : (s.setDraws d).plat = s.plat := rfl
@[simp] theorem State.setDraws_port (s : State) (d : Nat) : (s.setDraws d).port = s.port := rfl
@[simp] theorem State.setDraws_sched (s : State) (d : Nat) : (s.setDraws d).sched = s.sched := rfl
@[simp] theorem State.setDraws_turn (s : State) (d : Nat) : (s.setDraws d).turn = s.turn := rfl
@[simp] theorem State.setDraws_draws (s : State) (d : Nat) : (s.setDraws d).draws = d := rfl

/-! `countDraw` -/

@[simp] theorem State.countDraw_cfg (s : State) : (s.countDraw).cfg = s.cfg := rfl
@[simp] theorem State.countDraw_par (s : State) : (s.countDraw).par = s.par := rfl
@[simp] theorem State.countDraw_pb (s : State) : (s.countDraw).pb = s.pb := rfl
@[simp] theorem State.countDraw_bri (s : State) : (s.countDraw).bri = s.bri := rfl
@[simp] theorem State.countDraw_gen (s : State) : (s.countDraw).gen = s.gen := rfl
@[simp] theorem State.countDraw_gt (s : State) : (s.countDraw).gt = s.gt := rfl
@[simp] theorem State.countDraw_st (s : State) : (s.countDraw).st = s.st := rfl
@[simp] theorem State.countDraw_slot (s : State) : (s.countDraw).slot = s.slot := rfl
@[simp] theorem State.countDraw_ch (s : State) : (s.countDraw).ch = s.ch := rfl
@[simp] theorem State.countDraw_sb (s : State) : (s.countDraw).sb = s.sb := rfl
@[simp] theorem State.countDraw_xfer (s : State) : (s.countDraw).xfer = s.xfer := rfl
@[simp] theorem State.countDraw_fifo (s : State) : (s.countDraw).fifo = s.fifo := rfl
@[simp] theorem State.countDraw_host (s : State) : (s.countDraw).host = s.host := rfl
@[simp] theorem State.countDraw_te (s : State) : (s.countDraw).te = s.te := rfl
@[simp] theorem State.countDraw_resp (s : State) : (s.countDraw).resp = s.resp := rfl
@[simp] theorem State.countDraw_wire (s : State) : (s.countDraw).wire = s.wire := rfl
@[simp] theorem State.countDraw_fault (s : State) : (s.countDraw).fault = s.fault := rfl
@[simp] theorem State.countDraw_plat (s : State) : (s.countDraw).plat = s.plat := rfl
@[simp] theorem State.countDraw_port (s : State) : (s.countDraw).port = s.port := rfl
@[simp] theorem State.countDraw_sched (s : State) : (s.countDraw).sched = s.sched := rfl
@[simp] theorem State.countDraw_turn (s : State) : (s.countDraw).turn = s.turn := rfl
@[simp] theorem State.countDraw_draws (s : State) : (s.countDraw).draws = s.draws + 1 := rfl

/-! `holdSlot` -/

@[simp] theorem State.holdSlot_cfg (s : State) (k : Nat) : (s.holdSlot k).cfg = s.cfg := rfl
@[simp] theorem State.holdSlot_par (s : State) (k : Nat) : (s.holdSlot k).par = s.par := rfl
@[simp] theorem State.holdSlot_pb (s : State) (k : Nat) : (s.holdSlot k).pb = s.pb := rfl
@[simp] theorem State.holdSlot_bri (s : State) (k : Nat) : (s.holdSlot k).bri = s.bri := rfl
@[simp] theorem State.holdSlot_gen (s : State) (k : Nat) : (s.holdSlot k).gen = s.gen := rfl
@[simp] theorem State.holdSlot_gt (s : State) (k : Nat) : (s.holdSlot k).gt = s.gt := rfl
@[simp] theorem State.holdSlot_st (s : State) (k : Nat) : (s.holdSlot k).st = s.st := rfl
@[simp] theorem State.holdSlot_slot (s : State) (k : Nat) : (s.holdSlot k).slot = some k := rfl
@[simp] theorem State.holdSlot_ch (s : State) (k : Nat) : (s.holdSlot k).ch = s.ch := rfl
@[simp] theorem State.holdSlot_sb (s : State) (k : Nat) : (s.holdSlot k).sb = s.sb := rfl
@[simp] theorem State.holdSlot_xfer (s : State) (k : Nat) : (s.holdSlot k).xfer = s.xfer := rfl
@[simp] theorem State.holdSlot_fifo (s : State) (k : Nat) : (s.holdSlot k).fifo = s.fifo := rfl
@[simp] theorem State.holdSlot_host (s : State) (k : Nat) : (s.holdSlot k).host = s.host := rfl
@[simp] theorem State.holdSlot_te (s : State) (k : Nat) : (s.holdSlot k).te = s.te := rfl
@[simp] theorem State.holdSlot_resp (s : State) (k : Nat) : (s.holdSlot k).resp = s.resp := rfl
@[simp] theorem State.holdSlot_wire (s : State) (k : Nat) : (s.holdSlot k).wire = s.wire := rfl
@[simp] theorem State.holdSlot_fault (s : State) (k : Nat) : (s.holdSlot k).fault = s.fault := rfl
@[simp] theorem State.holdSlot_plat (s : State) (k : Nat) : (s.holdSlot k).plat = s.plat.setSlot s.cfg.block k true := rfl
@[simp] theorem State.holdSlot_port (s : State) (k : Nat) : (s.holdSlot k).port = s.port := rfl
@[simp] theorem State.holdSlot_sched (s : State) (k : Nat) : (s.holdSlot k).sched = s.sched := rfl
@[simp] theorem State.holdSlot_turn (s : State) (k : Nat) : (s.holdSlot k).turn = s.turn := rfl
@[simp] theorem State.holdSlot_draws (s : State) (k : Nat) : (s.holdSlot k).draws = s.draws := rfl

/-! `configureSlot` -/

@[simp] theorem State.configureSlot_cfg (s : State) : (s.configureSlot).cfg = s.cfg := rfl
@[simp] theorem State.configureSlot_par (s : State) : (s.configureSlot).par = s.par := rfl
@[simp] theorem State.configureSlot_pb (s : State) : (s.configureSlot).pb = s.pb := rfl
@[simp] theorem State.configureSlot_bri (s : State) : (s.configureSlot).bri = s.bri := rfl
@[simp] theorem State.configureSlot_gen (s : State) : (s.configureSlot).gen = s.gen := rfl
@[simp] theorem State.configureSlot_gt (s : State) : (s.configureSlot).gt = s.gt := rfl
@[simp] theorem State.configureSlot_st (s : State) : (s.configureSlot).st = s.st := rfl
@[simp] theorem State.configureSlot_slot (s : State) : (s.configureSlot).slot = s.slot := rfl
@[simp] theorem State.configureSlot_ch (s : State) : (s.configureSlot).ch = s.ch := rfl
@[simp] theorem State.configureSlot_sb (s : State) : (s.configureSlot).sb = s.sb := rfl
@[simp] theorem State.configureSlot_xfer (s : State) : (s.configureSlot).xfer = s.xfer := rfl
@[simp] theorem State.configureSlot_fifo (s : State) : (s.configureSlot).fifo = [] := rfl
@[simp] theorem State.configureSlot_host (s : State) : (s.configureSlot).host = s.host := rfl
@[simp] theorem State.configureSlot_te (s : State) : (s.configureSlot).te = ⟨s.cfg.pin, s.cfg.rateHz, s.cfg.width⟩ := rfl
@[simp] theorem State.configureSlot_resp (s : State) : (s.configureSlot).resp = s.resp := rfl
@[simp] theorem State.configureSlot_wire (s : State) : (s.configureSlot).wire = s.wire := rfl
@[simp] theorem State.configureSlot_fault (s : State) : (s.configureSlot).fault = s.fault := rfl
@[simp] theorem State.configureSlot_plat (s : State) : (s.configureSlot).plat = s.plat := rfl
@[simp] theorem State.configureSlot_port (s : State) : (s.configureSlot).port = s.port := rfl
@[simp] theorem State.configureSlot_sched (s : State) : (s.configureSlot).sched = s.sched := rfl
@[simp] theorem State.configureSlot_turn (s : State) : (s.configureSlot).turn = s.turn := rfl
@[simp] theorem State.configureSlot_draws (s : State) : (s.configureSlot).draws = s.draws := rfl

/-! `holdChannel` -/

@[simp] theorem State.holdChannel_cfg (s : State) (c : Nat) : (s.holdChannel c).cfg = s.cfg := rfl
@[simp] theorem State.holdChannel_par (s : State) (c : Nat) : (s.holdChannel c).par = s.par := rfl
@[simp] theorem State.holdChannel_pb (s : State) (c : Nat) : (s.holdChannel c).pb = s.pb := rfl
@[simp] theorem State.holdChannel_bri (s : State) (c : Nat) : (s.holdChannel c).bri = s.bri := rfl
@[simp] theorem State.holdChannel_gen (s : State) (c : Nat) : (s.holdChannel c).gen = s.gen := rfl
@[simp] theorem State.holdChannel_gt (s : State) (c : Nat) : (s.holdChannel c).gt = s.gt := rfl
@[simp] theorem State.holdChannel_st (s : State) (c : Nat) : (s.holdChannel c).st = s.st := rfl
@[simp] theorem State.holdChannel_slot (s : State) (c : Nat) : (s.holdChannel c).slot = s.slot := rfl
@[simp] theorem State.holdChannel_ch (s : State) (c : Nat) : (s.holdChannel c).ch = .available c := rfl
@[simp] theorem State.holdChannel_sb (s : State) (c : Nat) : (s.holdChannel c).sb = s.sb := rfl
@[simp] theorem State.holdChannel_xfer (s : State) (c : Nat) : (s.holdChannel c).xfer = ⟨false, 0, 0, beginXferConf⟩ := rfl
@[simp] theorem State.holdChannel_fifo (s : State) (c : Nat) : (s.holdChannel c).fifo = s.fifo := rfl
@[simp] theorem State.holdChannel_host (s : State) (c : Nat) : (s.holdChannel c).host = s.host := rfl
@[simp] theorem State.holdChannel_te (s : State) (c : Nat) : (s.holdChannel c).te = s.te := rfl
@[simp] theorem State.holdChannel_resp (s : State) (c : Nat) : (s.holdChannel c).resp = s.resp := rfl
@[simp] theorem State.holdChannel_wire (s : State) (c : Nat) : (s.holdChannel c).wire = s.wire := rfl
@[simp] theorem State.holdChannel_fault (s : State) (c : Nat) : (s.holdChannel c).fault = s.fault := rfl
@[simp] theorem State.holdChannel_plat (s : State) (c : Nat) : (s.holdChannel c).plat = s.plat.setChan c true := rfl
@[simp] theorem State.holdChannel_port (s : State) (c : Nat) : (s.holdChannel c).port = s.port := rfl
@[simp] theorem State.holdChannel_sched (s : State) (c : Nat) : (s.holdChannel c).sched = s.sched := rfl
@[simp] theorem State.holdChannel_turn (s : State) (c : Nat) : (s.holdChannel c).turn = s.turn := rfl
@[simp] theorem State.holdChannel_draws (s : State) (c : Nat) : (s.holdChannel c).draws = s.draws := rfl

/-! `takeTurn` -/

@[simp] theorem State.takeTurn_cfg (s : State) : (s.takeTurn).cfg = s.cfg := rfl
@[simp] theorem State.takeTurn_par (s : State) : (s.takeTurn).par = s.par := rfl
@[simp] theorem State.takeTurn_pb (s : State) : (s.takeTurn).pb = s.pb := rfl
@[simp] theorem State.takeTurn_bri (s : State) : (s.takeTurn).bri = s.bri := rfl
@[simp] theorem State.takeTurn_gen (s : State) : (s.takeTurn).gen = s.gen := rfl
@[simp] theorem State.takeTurn_gt (s : State) : (s.takeTurn).gt = s.gt := rfl
@[simp] theorem State.takeTurn_st (s : State) : (s.takeTurn).st = s.st := rfl
@[simp] theorem State.takeTurn_slot (s : State) : (s.takeTurn).slot = s.slot := rfl
@[simp] theorem State.takeTurn_ch (s : State) : (s.takeTurn).ch = s.ch := rfl
@[simp] theorem State.takeTurn_sb (s : State) : (s.takeTurn).sb = s.sb := rfl
@[simp] theorem State.takeTurn_xfer (s : State) : (s.takeTurn).xfer = s.xfer := rfl
@[simp] theorem State.takeTurn_fifo (s : State) : (s.takeTurn).fifo = s.fifo := rfl
@[simp] theorem State.takeTurn_host (s : State) : (s.takeTurn).host = s.host := rfl
@[simp] theorem State.takeTurn_te (s : State) : (s.takeTurn).te = s.te := rfl
@[simp] theorem State.takeTurn_resp (s : State) : (s.takeTurn).resp = s.resp := rfl
@[simp] theorem State.takeTurn_wire (s : State) : (s.takeTurn).wire = s.wire := rfl
@[simp] theorem State.takeTurn_fault (s : State) : (s.takeTurn).fault = s.fault := rfl
@[simp] theorem State.takeTurn_plat (s : State) : (s.takeTurn).plat = s.plat := rfl
@[simp] theorem State.takeTurn_port (s : State) : (s.takeTurn).port = s.port := rfl
@[simp] theorem State.takeTurn_sched (s : State) : (s.takeTurn).sched = s.sched.tail := rfl
@[simp] theorem State.takeTurn_turn (s : State) : (s.takeTurn).turn = s.turn + 1 := rfl
@[simp] theorem State.takeTurn_draws (s : State) : (s.takeTurn).draws = s.draws := rfl

/-! `setPort` -/

@[simp] theorem State.setPort_cfg (s : State) (cws : List Cmd) : (s.setPort cws).cfg = s.cfg := rfl
@[simp] theorem State.setPort_par (s : State) (cws : List Cmd) : (s.setPort cws).par = s.par := rfl
@[simp] theorem State.setPort_pb (s : State) (cws : List Cmd) : (s.setPort cws).pb = s.pb := rfl
@[simp] theorem State.setPort_bri (s : State) (cws : List Cmd) : (s.setPort cws).bri = s.bri := rfl
@[simp] theorem State.setPort_gen (s : State) (cws : List Cmd) : (s.setPort cws).gen = s.gen := rfl
@[simp] theorem State.setPort_gt (s : State) (cws : List Cmd) : (s.setPort cws).gt = s.gt := rfl
@[simp] theorem State.setPort_st (s : State) (cws : List Cmd) : (s.setPort cws).st = s.st := rfl
@[simp] theorem State.setPort_slot (s : State) (cws : List Cmd) : (s.setPort cws).slot = s.slot := rfl
@[simp] theorem State.setPort_ch (s : State) (cws : List Cmd) : (s.setPort cws).ch = s.ch := rfl
@[simp] theorem State.setPort_sb (s : State) (cws : List Cmd) : (s.setPort cws).sb = s.sb := rfl
@[simp] theorem State.setPort_xfer (s : State) (cws : List Cmd) : (s.setPort cws).xfer = s.xfer := rfl
@[simp] theorem State.setPort_fifo (s : State) (cws : List Cmd) : (s.setPort cws).fifo = s.fifo := rfl
@[simp] theorem State.setPort_host (s : State) (cws : List Cmd) : (s.setPort cws).host = s.host := rfl
@[simp] theorem State.setPort_te (s : State) (cws : List Cmd) : (s.setPort cws).te = s.te := rfl
@[simp] theorem State.setPort_resp (s : State) (cws : List Cmd) : (s.setPort cws).resp = s.resp := rfl
@[simp] theorem State.setPort_wire (s : State) (cws : List Cmd) : (s.setPort cws).wire = s.wire := rfl
@[simp] theorem State.setPort_fault (s : State) (cws : List Cmd) : (s.setPort cws).fault = s.fault := rfl
@[simp] theorem State.setPort_plat (s : State) (cws : List Cmd) : (s.setPort cws).plat = s.plat := rfl
@[simp] theorem State.setPort_port (s : State) (cws : List Cmd) : (s.setPort cws).port = cws := rfl
@[simp] theorem State.setPort_sched (s : State) (cws : List Cmd) : (s.setPort cws).sched = s.sched := rfl
@[simp] theorem State.setPort_turn (s : State) (cws : List Cmd) : (s.setPort cws).turn = s.turn := rfl
@[simp] theorem State.setPort_draws (s : State) (cws : List Cmd) : (s.setPort cws).draws = s.draws := rfl

end Sys2Proof.Machine
end

