-- ==== Sys2Proof/Laws/Ops.lean ====
section
/-! SUPPORT. One lemma for each shared operation: the buffers and the storage form, draws, the platform. -/

namespace Sys2Proof.Machine

/-! ### The buffers -/

@[simp] theorem readPB_fillPB (s : State) (p : Pixel) (i : Nat) :
    (s.fillPB p).readPB i = if i < s.cfg.n then some p else none := by
  simp only [State.readPB, State.fillPB_pb, List.getElem?_replicate]

theorem readPB_writePB_same (s : State) (i : Nat) (p : Pixel) (h : i < s.pb.length) :
    (s.writePB i p).readPB i = some p := by
  simp [State.readPB, h]

theorem readPB_writePB_other (s : State) (i j : Nat) (p : Pixel) (h : i ≠ j) :
    (s.writePB i p).readPB j = s.readPB j := by
  simp only [State.readPB, State.writePB_pb, List.getElem?_set_ne h]

@[simp] theorem readSB_encodeFrame (s : State) (i : Nat) :
    s.encodeFrame.readSB i = (s.readPB i).map s.packPixel := by
  simp only [State.readSB, State.encodeFrame_sb, State.frameWords, List.getElem?_map, State.readPB]

theorem frameWords_length (s : State) : s.frameWords.length = s.pb.length := by
  simp [State.frameWords]

theorem zextIndex_toNat (idx : Idx) : (zextIndex idx).toNat = idx.toNat := by
  have h := idx.isLt
  simp only [zextIndex, BitVec.toNat_setWidth]
  omega

/-- A pixel command's effect: `PB` set at the index where it is in range, else nothing. -/
theorem paintPixel_eq (s : State) (idx : Idx) (p : Pixel) :
    s.paintPixel (zextIndex idx) p = if idx.toNat < s.cfg.n then s.writePB idx.toNat p else s := by
  simp only [State.paintPixel, State.inRange, zextIndex_toNat, decide_eq_true_eq]

/-! ### The storage form -/

theorem memory_wf_iff (s : State) :
    Memory.wf s = true ↔ s.pb.length = s.cfg.n ∧ s.sb.length = s.cfg.n ∧ s.fifo.length ≤ s.par.fifoDepth := by
  simp [Memory.wf, and_assoc]

theorem fillPB_memory_wf (s : State) (p : Pixel) (h : Memory.wf s = true) : Memory.wf (s.fillPB p) = true := by
  rw [memory_wf_iff] at *
  simpa using h.2

theorem writePB_memory_wf (s : State) (i : Nat) (p : Pixel) (h : Memory.wf s = true) :
    Memory.wf (s.writePB i p) = true := by
  rw [memory_wf_iff] at *
  simpa using h

theorem encodeFrame_memory_wf (s : State) (h : Memory.wf s = true) : Memory.wf s.encodeFrame = true := by
  rw [memory_wf_iff] at *
  exact ⟨h.1, by simpa [frameWords_length] using h.1, h.2.2⟩

theorem pushFifo_memory_wf (s : State) (w : Word32) (h : Memory.wf s = true) (room : s.fifoRoom = true) :
    Memory.wf (s.pushFifo w) = true := by
  rw [memory_wf_iff] at *
  simp only [State.fifoRoom, decide_eq_true_eq] at room
  refine ⟨h.1, h.2.1, ?_⟩
  simp
  omega

theorem setFifo_memory_wf (s : State) (q : List Word32) (h : Memory.wf s = true) (hq : q.length ≤ s.fifo.length) :
    Memory.wf (s.setFifo q) = true := by
  rw [memory_wf_iff] at *
  exact ⟨h.1, h.2.1, hq.trans h.2.2⟩

theorem popFifo_some (s t : State) (w : Word32) :
    s.popFifo = some (w, t) ↔ ∃ q, s.fifo = w :: q ∧ t = s.setFifo q := by
  unfold State.popFifo
  split
  · simp_all
  · next v q hq =>
    simp only [Option.some.injEq, Prod.mk.injEq, hq, List.cons.injEq]
    exact ⟨fun ⟨hv, ht⟩ => ⟨q, ⟨hv, rfl⟩, ht.symm⟩, fun ⟨r, ⟨hv, hr⟩, ht⟩ => ⟨hv, by rw [ht, hr]⟩⟩

theorem reset_memory_wf : Memory.wf State.reset = true := by decide

/-! ### Draws -/

/-- A draw is an element of the set drawn from. -/
theorem draw_mem (k x : Nat) (xs : List Nat) : draw k x xs ∈ x :: xs := by
  unfold draw
  rw [List.getD_eq_getElem _ _ (by simpa using Nat.mod_lt k (Nat.succ_pos xs.length))]
  exact List.getElem_mem _

/-! ### The platform -/

@[simp] theorem load_slotBit (x : Plat) (blk off b k : Nat) : (x.load blk off).slotBit b k = x.slotBit b k := rfl
@[simp] theorem load_chanBit (x : Plat) (blk off c : Nat) : (x.load blk off).chanBit c = x.chanBit c := rfl
@[simp] theorem setSlot_program (x : Plat) (blk k : Nat) (v : Bool) (b : Nat) :
    (x.setSlot blk k v).program b = x.program b := rfl
@[simp] theorem setSlot_prog (x : Plat) (blk k : Nat) (v : Bool) : (x.setSlot blk k v).prog = x.prog := rfl
@[simp] theorem setSlot_chanBit (x : Plat) (blk k : Nat) (v : Bool) (c : Nat) :
    (x.setSlot blk k v).chanBit c = x.chanBit c := rfl
@[simp] theorem setChan_program (x : Plat) (c : Nat) (v : Bool) (b : Nat) : (x.setChan c v).program b = x.program b := rfl
@[simp] theorem setChan_prog (x : Plat) (c : Nat) (v : Bool) : (x.setChan c v).prog = x.prog := rfl
@[simp] theorem setChan_slotBit (x : Plat) (c : Nat) (v : Bool) (b k : Nat) :
    (x.setChan c v).slotBit b k = x.slotBit b k := rfl
@[simp] theorem load_freeSlots (x : Plat) (blk off : Nat) (p : Params) (b : Nat) :
    (x.load blk off).freeSlots p b = x.freeSlots p b := rfl
@[simp] theorem load_freeChans (x : Plat) (blk off : Nat) (p : Params) : (x.load blk off).freeChans p = x.freeChans p := rfl
@[simp] theorem setSlot_freeChans (x : Plat) (blk k : Nat) (v : Bool) (p : Params) :
    (x.setSlot blk k v).freeChans p = x.freeChans p := rfl

theorem load_program_same (x : Plat) (blk off : Nat) (h : blk < x.prog.length) :
    (x.load blk off).program blk = .loaded off := by
  simp [Plat.load, Plat.program, h]

theorem load_program_other (x : Plat) (blk off b : Nat) (h : b ≠ blk) :
    (x.load blk off).program b = x.program b := by
  simp only [Plat.load, Plat.program, List.getD_eq_getElem?_getD, List.getElem?_set_ne (Ne.symm h)]

/-- A bit of `SLOT_CLAIMED` after a write: the value written at its place, where the place exists, and as before elsewhere. -/
theorem setSlot_slotBit (x : Plat) (blk k : Nat) (v : Bool) (b j : Nat) :
    (x.setSlot blk k v).slotBit b j =
      if b = blk ∧ j = k then (v && decide (k < (x.slotClaimed.getD blk []).length)) else x.slotBit b j := by
  unfold Plat.setSlot Plat.slotBit
  simp only [List.getD_eq_getElem?_getD]
  by_cases hb : b = blk
  · subst hb
    by_cases hlen : b < x.slotClaimed.length
    · simp only [List.getElem?_set_self hlen, Option.getD_some]
      by_cases hj : j = k
      · subst hj
        by_cases hk : j < (x.slotClaimed[b]?.getD []).length
        · simp [hk]
        · simp [hk]
      · simp [hj, List.getElem?_set_ne (Ne.symm hj)]
    · by_cases hj : j = k <;> simp [hlen, hj]
  · simp [hb, List.getElem?_set_ne (Ne.symm hb)]

theorem setChan_chanBit (x : Plat) (c : Nat) (v : Bool) (d : Nat) :
    (x.setChan c v).chanBit d = if d = c then (v && decide (c < x.chanClaimed.length)) else x.chanBit d := by
  unfold Plat.setChan Plat.chanBit
  simp only [List.getD_eq_getElem?_getD]
  by_cases hd : d = c
  · subst hd
    by_cases h : d < x.chanClaimed.length <;> simp [h]
  · simp [hd, List.getElem?_set_ne (Ne.symm hd)]

theorem mem_freeSlots (x : Plat) (p : Params) (blk k : Nat) :
    k ∈ x.freeSlots p blk ↔ k < p.nslots ∧ x.slotBit blk k = false := by
  simp [Plat.freeSlots]

theorem mem_freeChans (x : Plat) (p : Params) (c : Nat) :
    c ∈ x.freeChans p ↔ c < p.nchan ∧ x.chanBit c = false := by
  simp [Plat.freeChans]

theorem plat_wf_iff (p : Params) (x : Plat) :
    x.wf p = true ↔ x.prog.length = p.nblocks ∧ x.slotClaimed.length = p.nblocks ∧
      (∀ row ∈ x.slotClaimed, row.length = p.nslots) ∧ x.chanClaimed.length = p.nchan := by
  simp [Plat.wf, and_assoc]

/-- The row of a block of the platform has one bit for each slot. -/
theorem slotRow_length (p : Params) (x : Plat) (blk : Nat) (h : x.wf p = true) (hb : blk < p.nblocks) :
    (x.slotClaimed.getD blk []).length = p.nslots := by
  obtain ⟨-, hl, hr, -⟩ := (plat_wf_iff p x).1 h
  rw [List.getD_eq_getElem _ _ (hl ▸ hb)]
  exact hr _ (List.getElem_mem _)

theorem load_wf (p : Params) (x : Plat) (blk off : Nat) (h : x.wf p = true) : (x.load blk off).wf p = true := by
  rw [plat_wf_iff] at *
  simpa [Plat.load] using h

theorem setSlot_wf (p : Params) (x : Plat) (blk k : Nat) (v : Bool) (h : x.wf p = true) :
    (x.setSlot blk k v).wf p = true := by
  rw [plat_wf_iff] at *
  obtain ⟨h1, h2, h3, h4⟩ := h
  refine ⟨h1, by simpa [Plat.setSlot] using h2, fun row hrow => ?_, h4⟩
  by_cases hb : blk < x.slotClaimed.length
  · rcases List.mem_or_eq_of_mem_set hrow with hr | hr
    · exact h3 row hr
    · rw [hr, List.length_set, List.getD_eq_getElem _ _ hb]
      exact h3 _ (List.getElem_mem _)
  · rw [Plat.setSlot, List.set_eq_of_length_le (Nat.not_lt.1 hb)] at hrow
    exact h3 row hrow

theorem setChan_wf (p : Params) (x : Plat) (c : Nat) (v : Bool) (h : x.wf p = true) : (x.setChan c v).wf p = true := by
  rw [plat_wf_iff] at *
  simpa [Plat.setChan] using h

theorem unused_wf (p : Params) : (Plat.unused p).wf p = true := by
  rw [plat_wf_iff]
  exact ⟨by simp [Plat.unused], by simp [Plat.unused],
    fun row hrow => by simp [List.eq_of_mem_replicate (show row ∈ List.replicate _ _ from hrow)], by simp [Plat.unused]⟩

end Sys2Proof.Machine
end

