-- ==== Sys2Proof/Laws/Commands.lean ====
section
/-! SUPPORT. What the shared parts of the commands can do, each said once, and what an accepted command answers. -/

namespace Sys2Proof.Machine

/-- A painting command faults exactly while a transfer is active. -/
theorem whileNoTransfer_eq (op : Mnemonic) (k : State → Result) (s : State) :
    whileNoTransfer op k s = if s.xfer.active then .next (s.withFault (.misuseHazard op)) else k s := rfl

/-- SHOW and SHOWASYNC start a frame only in a state with a slot and no transfer. -/
theorem startFrame_eq (op : Mnemonic) (k : State → Result) (s : State) :
    startFrame op k s =
      if s.st = .uninitialized then .next (s.withFault (.lifecycleViolation op))
      else if s.xfer.active then .next (s.withFault (.misuseHazard op))
      else k (s.encodeFrame.setEngine .transmitting) := rfl

/-! ### The steps of BEGIN -/

/-- Step 1 keeps a loaded program, loads one that fits, and fails otherwise. -/
theorem loadProgram_some (s t : State) :
    s.loadProgram = some t ↔
      (∃ off, s.plat.program s.cfg.block = .loaded off ∧ t = s) ∨
      (s.plat.program s.cfg.block = .notLoaded ∧ s.par.progFits.getD s.cfg.block false = true ∧
        t = (s.setPlat (s.plat.load s.cfg.block (Config.freeOffset s.draws))).countDraw) := by
  unfold State.loadProgram
  split
  · next off h =>
    simp only [h, Option.some.injEq]
    exact ⟨fun ht => .inl ⟨off, rfl, ht.symm⟩, by rintro (⟨_, -, ht⟩ | ⟨hn, -⟩) <;> simp_all⟩
  · next h =>
    split
    · next hf =>
      simp only [h, hf, Option.some.injEq]
      exact ⟨fun ht => .inr ⟨trivial, trivial, ht.symm⟩, by rintro (⟨_, hn, -⟩ | ⟨-, -, ht⟩) <;> simp_all⟩
    · next hf => simp only [h]; simp_all

theorem loadProgram_none (s : State) :
    s.loadProgram = none ↔
      s.plat.program s.cfg.block = .notLoaded ∧ s.par.progFits.getD s.cfg.block false = false := by
  unfold State.loadProgram
  split
  · next off h => simp [h]
  · next h => split <;> simp_all

/-- Step 2 holds the slot requested, or one of the free slots. -/
theorem claimSlot_some (s t : State) :
    s.claimSlot = some t →
      (s.cfg.slotReq ≠ -1 ∧ t = s.holdSlot s.cfg.slotReq.toNat) ∨
      (s.cfg.slotReq = -1 ∧ ∃ k, k ∈ s.plat.freeSlots s.par s.cfg.block ∧ t = (s.holdSlot k).countDraw) := by
  unfold State.claimSlot
  split
  · next h =>
    split
    · simp
    · next k ks hf =>
      intro ht
      exact .inr ⟨h, _, hf ▸ draw_mem _ k ks, (Option.some.inj ht).symm⟩
  · next h => exact fun ht => .inl ⟨h, (Option.some.inj ht).symm⟩

theorem claimSlot_none (s : State) :
    s.claimSlot = none ↔ s.cfg.slotReq = -1 ∧ s.plat.freeSlots s.par s.cfg.block = [] := by
  unfold State.claimSlot
  split
  · next h => split <;> simp_all
  · next h => simp [h]

/-- Step 4 holds one of the free channels, or none where there is none. -/
theorem acquireChannel_cases (s : State) :
    (s.plat.freeChans s.par = [] ∧ s.acquireChannel = { s with ch := .unavailable }) ∨
    ∃ c, c ∈ s.plat.freeChans s.par ∧ s.acquireChannel = (s.holdChannel c).countDraw := by
  unfold State.acquireChannel
  split
  · next h => exact .inl ⟨h, rfl⟩
  · next c cs h => exact .inr ⟨_, h ▸ draw_mem _ c cs, rfl⟩

/-- Whether step 1 leaves the platform `x`: as it was with a loaded program, or with a fitting one loaded. -/
def LoadsTo (s : State) (x : Plat) : Prop :=
  (∃ off, s.plat.program s.cfg.block = .loaded off ∧ x = s.plat) ∨
  (s.plat.program s.cfg.block = .notLoaded ∧ s.par.progFits.getD s.cfg.block false = true ∧
    ∃ off, x = s.plat.load s.cfg.block off)

/-- What BEGIN can do (43_engine_commands.md R160, R161): a LifecycleViolation, one of its two failures, or success with a slot
`k`, and with the channel and the platform that step 4 leaves. -/
inductive BeginEffect (s t : State) : Prop
  | violation (held : s.st ≠ .uninitialized) (eq : t = s.withFault (.lifecycleViolation .beginCmd))
  | noProgram (uninit : s.st = .uninitialized) (missing : s.plat.program s.cfg.block = .notLoaded)
      (unfit : s.par.progFits.getD s.cfg.block false = false) (eq : t = s.respond 0)
  | noSlot (x : Plat) (d : Nat) (uninit : s.st = .uninitialized) (loads : LoadsTo s x) (auto : s.cfg.slotReq = -1)
      (taken : s.plat.freeSlots s.par s.cfg.block = [])
      (eq : t = { s with plat := x, draws := d, resp := 0, host := .idle })
  | success (x y : Plat) (k d : Nat) (ch : Channel) (xfer : Xfer) (uninit : s.st = .uninitialized) (loads : LoadsTo s x)
      (chosen : s.cfg.slotReq ≠ -1 ∧ k = s.cfg.slotReq.toNat ∨
        s.cfg.slotReq = -1 ∧ k ∈ s.plat.freeSlots s.par s.cfg.block)
      (channel : s.plat.freeChans s.par = [] ∧ y = x.setSlot s.cfg.block k true ∧ ch = .unavailable ∧ xfer = s.xfer ∨
        ∃ c, c ∈ s.plat.freeChans s.par ∧ y = (x.setSlot s.cfg.block k true).setChan c true ∧ ch = .available c ∧
          xfer = ⟨false, 0, 0, beginXferConf⟩)
      (eq : t = { s with plat := y, slot := some k, te := ⟨s.cfg.pin, s.cfg.rateHz, s.cfg.width⟩, fifo := [], ch := ch,
                         xfer := xfer, pb := List.replicate s.cfg.n Pixel.off, st := .ready, resp := 1, host := .idle,
                         draws := d })

/-- Step 1's state is the given one with the platform and the count of draws it leaves. -/
theorem loadProgram_form (s t : State) (h : s.loadProgram = some t) :
    ∃ x d, LoadsTo s x ∧ t = { s with plat := x, draws := d } := by
  rcases (loadProgram_some s t).1 h with ⟨off, hp, rfl⟩ | ⟨hp, hf, rfl⟩
  · exact ⟨_, _, .inl ⟨off, hp, rfl⟩, rfl⟩
  · exact ⟨_, _, .inr ⟨hp, hf, _, rfl⟩, rfl⟩

theorem LoadsTo.freeSlots_eq {s : State} {x : Plat} (h : LoadsTo s x) (p : Params) (b : Nat) :
    x.freeSlots p b = s.plat.freeSlots p b := by
  rcases h with ⟨_, -, rfl⟩ | ⟨-, -, _, rfl⟩ <;> rfl

theorem LoadsTo.freeChans_eq {s : State} {x : Plat} (h : LoadsTo s x) (p : Params) :
    x.freeChans p = s.plat.freeChans p := by
  rcases h with ⟨_, -, rfl⟩ | ⟨-, -, _, rfl⟩ <;> rfl

/-- Steps 3 to 5 from a state that holds a slot. -/
theorem makeReady_form (s : State) :
    (s.plat.freeChans s.par = [] ∧
      s.makeReady = { s with te := ⟨s.cfg.pin, s.cfg.rateHz, s.cfg.width⟩, fifo := [], ch := .unavailable,
                             pb := List.replicate s.cfg.n Pixel.off, st := .ready }) ∨
    ∃ c, c ∈ s.plat.freeChans s.par ∧
      s.makeReady = { s with te := ⟨s.cfg.pin, s.cfg.rateHz, s.cfg.width⟩, fifo := [], ch := .available c,
                             xfer := ⟨false, 0, 0, beginXferConf⟩, plat := s.plat.setChan c true,
                             pb := List.replicate s.cfg.n Pixel.off, st := .ready, draws := s.draws + 1 } := by
  rcases acquireChannel_cases s.configureSlot with ⟨hf, h⟩ | ⟨c, hc, h⟩
  · exact .inl ⟨hf, by rw [State.makeReady, h]; rfl⟩
  · exact .inr ⟨c, hc, by rw [State.makeReady, h]; rfl⟩

/-- The inversion of BEGIN. -/
theorem begin_effect (s t : State) (h : execBegin s = .next t) : BeginEffect s t := by
  unfold execBegin at h
  split at h
  · next hu =>
    split at h
    · next h1 =>
      obtain ⟨hp, hf⟩ := (loadProgram_none s).1 h1
      exact .noProgram hu hp hf (Host.Outcome.next.inj h).symm
    · next s1 h1 =>
      obtain ⟨x, d, hl, rfl⟩ := loadProgram_form s s1 h1
      split at h
      · next h2 =>
        obtain ⟨ha, hn⟩ := (claimSlot_none _).1 h2
        exact .noSlot x d hu hl ha (hl.freeSlots_eq _ _ ▸ hn) (Host.Outcome.next.inj h).symm
      · next s2 h2 =>
        have ht := (Host.Outcome.next.inj h).symm
        have hc := hl.freeChans_eq s.par
        rcases makeReady_form s2 with ⟨hf, hm⟩ | ⟨c, hf, hm⟩ <;> rw [hm] at ht <;>
          rcases claimSlot_some _ _ h2 with ⟨hq, rfl⟩ | ⟨hq, k, hk, rfl⟩
        · exact .success x _ _ _ _ _ hu hl (.inl ⟨hq, rfl⟩) (.inl ⟨hc ▸ hf, rfl, rfl, rfl⟩) ht
        · exact .success x _ k _ _ _ hu hl (.inr ⟨hq, hl.freeSlots_eq s.par s.cfg.block ▸ hk⟩)
            (.inl ⟨hc ▸ hf, rfl, rfl, rfl⟩) ht
        · exact .success x _ _ _ _ _ hu hl (.inl ⟨hq, rfl⟩) (.inr ⟨c, hc ▸ hf, rfl, rfl, rfl⟩) ht
        · exact .success x _ k _ _ _ hu hl (.inr ⟨hq, hl.freeSlots_eq s.par s.cfg.block ▸ hk⟩)
            (.inr ⟨c, hc ▸ hf, rfl, rfl, rfl⟩) ht
  · next hu => exact .violation hu (Host.Outcome.next.inj h).symm

/-! ### The steps of END -/

/-- What END leaves of a state that holds a slot (R171): every field it writes. -/
theorem end_form (s : State) :
    ∃ x log, (log = s.wire ∧ s.xfer.active = false ∧ s.fifo = [] ∨
        log = s.wire ++ [.abort] ∧ (s.xfer.active = true ∨ s.fifo ≠ [])) ∧
      ((s.ch = .unavailable ∧ s.slot = none ∧ x = s.plat) ∨
        (∃ c, s.ch = .available c ∧ s.slot = none ∧ x = s.plat.setChan c false) ∨
        (∃ k, s.ch = .unavailable ∧ s.slot = some k ∧ x = s.plat.setSlot s.cfg.block k false) ∨
        ∃ c k, s.ch = .available c ∧ s.slot = some k ∧ x = (s.plat.setChan c false).setSlot s.cfg.block k false) ∧
      ((((s.logAbort.abortXfer.setFifo []).releaseChannel.releaseSlot).setEngine .uninitialized).respond 0) =
        { s with wire := log, xfer := ⟨false, 0, 0, s.xfer.conf⟩, fifo := [], ch := .unavailable, slot := none, plat := x,
                 st := .uninitialized, resp := 0, host := .idle } := by
  have hlog : ∃ log, (log = s.wire ∧ s.xfer.active = false ∧ s.fifo = [] ∨
        log = s.wire ++ [.abort] ∧ (s.xfer.active = true ∨ s.fifo ≠ [])) ∧ s.logAbort = { s with wire := log } := by
    unfold State.logAbort
    split
    · next h => exact ⟨_, .inr ⟨rfl, by simpa using h⟩, rfl⟩
    · next h => exact ⟨_, .inl ⟨rfl, by simpa using h⟩, rfl⟩
  obtain ⟨log, hl, e⟩ := hlog
  rw [e]
  cases hc : s.ch with
  | unavailable =>
    cases hs : s.slot with
    | none => exact ⟨_, log, hl, .inl ⟨rfl, rfl, rfl⟩, by simp [State.releaseChannel, State.releaseSlot, State.abortXfer,
        State.setXfer, State.setFifo, State.setEngine, State.respond]⟩
    | some k => exact ⟨_, log, hl, .inr (.inr (.inl ⟨k, rfl, rfl, rfl⟩)), by simp [State.releaseChannel, State.releaseSlot,
        State.abortXfer, State.setXfer, State.setFifo, State.setEngine, State.respond]⟩
  | available c =>
    cases hs : s.slot with
    | none => exact ⟨_, log, hl, .inr (.inl ⟨c, rfl, rfl, rfl⟩), by simp [State.releaseChannel, State.releaseSlot,
        State.abortXfer, State.setXfer, State.setFifo, State.setEngine, State.respond]⟩
    | some k => exact ⟨_, log, hl, .inr (.inr (.inr ⟨c, k, rfl, rfl, rfl⟩)), by simp [State.releaseChannel, State.releaseSlot,
        State.abortXfer, State.setXfer, State.setFifo, State.setEngine, State.respond]⟩

/-! ### Every command -/

/-- What an accepted command can do (43_engine_commands.md R175): its own effect, or its one fault. BEGIN's four outcomes are
those of `BeginEffect`. -/
inductive CommandEffect (i : Instr) (s t : State) : Prop
  | misuse (active : s.xfer.active = true)
      (paints : i.mnemonic ∈ [Mnemonic.setallRgb, .setallRgbw, .setpixelRgb, .setpixelRgbw, .clear])
      (eq : t = s.withFault (.misuseHazard i.mnemonic))
  | fill (p : Pixel) (inactive : s.xfer.active = false)
      (fills : i.mnemonic ∈ [Mnemonic.setallRgb, .setallRgbw, .clear]) (eq : t = (s.fillPB p).respond 0)
  | pixel (idx : Idx) (p : Pixel) (inactive : s.xfer.active = false)
      (paints : i.mnemonic ∈ [Mnemonic.setpixelRgb, .setpixelRgbw])
      (eq : t = (s.paintPixel (zextIndex idx) p).respond 0)
  | brightness (b : Byte) (is : i = .setbrightness b) (eq : t = (s.setBri b).respond 0)
  | gamma (on : Bool) (is : i = .enablegamma on) (eq : t = (s.setGamma on).respond 0)
  | begins (is : i = .beginCmd) (effect : BeginEffect s t)
  | frameNoSlot (is : i = .showCmd ∨ i = .showasync) (uninit : s.st = .uninitialized)
      (eq : t = s.withFault (.lifecycleViolation i.mnemonic))
  | frameBusy (is : i = .showCmd ∨ i = .showasync) (held : s.st ≠ .uninitialized) (active : s.xfer.active = true)
      (eq : t = s.withFault (.misuseHazard i.mnemonic))
  | showChannel (c : Nat) (is : i = .showCmd) (held : s.st ≠ .uninitialized) (inactive : s.xfer.active = false)
      (ch : s.ch = .available c) (eq : t = (s.encodeFrame.setEngine .transmitting).startXfer.setPhase .waitXfer)
  | asyncChannel (c : Nat) (is : i = .showasync) (held : s.st ≠ .uninitialized) (inactive : s.xfer.active = false)
      (ch : s.ch = .available c) (eq : t = (s.encodeFrame.setEngine .transmitting).startXfer.respond 0)
  | framePush (k : AfterPush) (is : i = .showCmd ∧ k = .thenLatch ∨ i = .showasync ∧ k = .thenReturn)
      (held : s.st ≠ .uninitialized) (inactive : s.xfer.active = false) (ch : s.ch = .unavailable)
      (eq : t = (s.encodeFrame.setEngine .transmitting).setPhase (.pushing 0 k))
  | busy (is : i = .busy) (eq : t = s.respond (boolWord s.busyFlag))
  | waitNothing (is : i = .wait) (uninit : s.st = .uninitialized) (eq : t = s.respond 0)
  | waits (is : i = .wait) (held : s.st ≠ .uninitialized) (eq : t = s.setPhase .waitXfer)
  | endNothing (is : i = .endCmd) (uninit : s.st = .uninitialized) (eq : t = s.respond 0)
  | ends (is : i = .endCmd) (held : s.st ≠ .uninitialized)
      (eq : t = ((((s.logAbort.abortXfer.setFifo []).releaseChannel.releaseSlot).setEngine .uninitialized).respond 0))
  | size (is : i = .size) (eq : t = s.respond s.sizeWord)

/-- The inversion of `exec`: whatever state a command answers is one of the effects listed. -/
theorem exec_effect (i : Instr) (s t : State) (h : exec i s = .next t) : CommandEffect i s t := by
  cases i with
  | setallRgb r g b | setallRgbw r g b w | setpixelRgb idx r g b | setpixelRgbw idx r g b w | clear =>
    simp only [exec, execSetallRgb, execSetallRgbw, execSetpixelRgb, execSetpixelRgbw, execClear,
      whileNoTransfer_eq] at h
    split at h
    · next ha => exact .misuse ha (by simp [Instr.mnemonic]) (Host.Outcome.next.inj h).symm
    · next ha =>
      simp only [Bool.not_eq_true] at ha
      first
      | exact .fill _ ha (by simp [Instr.mnemonic]) (Host.Outcome.next.inj h).symm
      | exact .pixel _ _ ha (by simp [Instr.mnemonic]) (Host.Outcome.next.inj h).symm
  | setbrightness b => exact .brightness b rfl (Host.Outcome.next.inj h).symm
  | enablegamma on => exact .gamma on rfl (Host.Outcome.next.inj h).symm
  | beginCmd => exact .begins rfl (begin_effect s t h)
  | showCmd =>
    simp only [exec, execShow, startFrame_eq] at h
    split at h
    · next hu => exact .frameNoSlot (.inl rfl) hu (Host.Outcome.next.inj h).symm
    · next hu =>
      split at h
      · next ha => exact .frameBusy (.inl rfl) hu ha (Host.Outcome.next.inj h).symm
      · next ha =>
        simp only [Bool.not_eq_true] at ha
        split at h
        · next c hc => exact .showChannel c rfl hu ha hc (Host.Outcome.next.inj h).symm
        · next hc => exact .framePush _ (.inl ⟨rfl, rfl⟩) hu ha hc (Host.Outcome.next.inj h).symm
  | showasync =>
    simp only [exec, execShowasync, startFrame_eq] at h
    split at h
    · next hu => exact .frameNoSlot (.inr rfl) hu (Host.Outcome.next.inj h).symm
    · next hu =>
      split at h
      · next ha => exact .frameBusy (.inr rfl) hu ha (Host.Outcome.next.inj h).symm
      · next ha =>
        simp only [Bool.not_eq_true] at ha
        split at h
        · next c hc => exact .asyncChannel c rfl hu ha hc (Host.Outcome.next.inj h).symm
        · next hc => exact .framePush _ (.inr ⟨rfl, rfl⟩) hu ha hc (Host.Outcome.next.inj h).symm
  | busy => exact .busy rfl (Host.Outcome.next.inj h).symm
  | wait =>
    simp only [exec, execWait] at h
    split at h
    · next hu => exact .waitNothing rfl hu (Host.Outcome.next.inj h).symm
    · next hu => exact .waits rfl hu (Host.Outcome.next.inj h).symm
  | endCmd =>
    simp only [exec, execEnd] at h
    split at h
    · next hu => exact .endNothing rfl hu (Host.Outcome.next.inj h).symm
    · next hu => exact .ends rfl hu (Host.Outcome.next.inj h).symm
  | size => exact .size rfl (Host.Outcome.next.inj h).symm

/-- Every command answers a next state: none stops the machine in the step that accepts it. -/
theorem exec_next (i : Instr) (s : State) : ∃ t, exec i s = .next t := by
  cases i with
  | setallRgb r g b | setallRgbw r g b w | setpixelRgb idx r g b | setpixelRgbw idx r g b w | clear =>
    simp only [exec, execSetallRgb, execSetallRgbw, execSetpixelRgb, execSetpixelRgbw, execClear,
      whileNoTransfer_eq]
    split <;> exact ⟨_, rfl⟩
  | setbrightness b => exact ⟨_, rfl⟩
  | enablegamma on => exact ⟨_, rfl⟩
  | beginCmd =>
    simp only [exec, execBegin]
    split
    · split
      · exact ⟨_, rfl⟩
      · split <;> exact ⟨_, rfl⟩
    · exact ⟨_, rfl⟩
  | showCmd | showasync =>
    simp only [exec, execShow, execShowasync, startFrame_eq]
    split
    · exact ⟨_, rfl⟩
    · split
      · exact ⟨_, rfl⟩
      · split <;> exact ⟨_, rfl⟩
  | busy => exact ⟨_, rfl⟩
  | wait => simp only [exec, execWait]; split <;> exact ⟨_, rfl⟩
  | endCmd => simp only [exec, execEnd]; split <;> exact ⟨_, rfl⟩
  | size => exact ⟨_, rfl⟩

end Sys2Proof.Machine
end

