-- ==== Sys2Proof/Laws/Encoding.lean ====
section
/-! SUPPORT. A command word and its fields, and the inversion of the decoder. -/

namespace Sys2Proof

@[simp] theorem split_join (x : Fields) : Fields.split x.join = x := by
  obtain ⟨op, idx, r, g, b, w⟩ := x
  simp only [Fields.join, Fields.split, Fields.mk.injEq]
  refine ⟨?_, ?_, ?_, ?_, ?_, ?_⟩ <;>
  · apply BitVec.eq_of_getLsbD_eq
    intro k hk
    simp only [BitVec.getLsbD_extractLsb', BitVec.getLsbD_append]
    grind

@[simp] theorem join_split (cw : Cmd) : (Fields.split cw).join = cw := by
  simp only [Fields.join, Fields.split]
  apply BitVec.eq_of_getLsbD_eq
  intro k hk
  simp only [BitVec.getLsbD_extractLsb', BitVec.getLsbD_append]
  grind

/-- Two words are the same exactly when their fields are. -/
theorem join_inj (x y : Fields) : x.join = y.join ↔ x = y :=
  ⟨fun h => by rw [← split_join x, h, split_join], fun h => h ▸ rfl⟩

/-- The mask of a row keeps or drops each field on its own. -/
theorem join_and (x y : Fields) :
    x.join &&& y.join =
      (⟨x.op &&& y.op, x.idx &&& y.idx, x.r &&& y.r, x.g &&& y.g, x.b &&& y.b, x.w &&& y.w⟩ : Fields).join := by
  simp only [Fields.join]
  apply BitVec.eq_of_getLsbD_eq
  intro k hk
  simp only [BitVec.getLsbD_and, BitVec.getLsbD_append]
  grind

/-- A mnemonic has one row, and the row has the mnemonic's opcode. -/
theorem row_of_mnemonic (m : Mnemonic) : ∃ row ∈ opcodeTable, row.mnemonic = m ∧ row.op = m.opcode := by
  cases m <;> decide

/-- The row found for an opcode is the one that has it. -/
theorem find_row (op : Byte) (row : Row) :
    opcodeTable.find? (fun r => r.op == op) = some row ↔ row ∈ opcodeTable ∧ row.op = op := by
  constructor
  · exact fun h => ⟨List.mem_of_find?_eq_some h, by simpa using List.find?_some h⟩
  · rintro ⟨h, rfl⟩
    revert row
    decide

/-- The inversion of `decode`. -/
theorem decode_ok (cw : Cmd) (i : Instr) :
    decode cw = .ok i ↔ ∃ row ∈ opcodeTable, row.op = (Fields.split cw).op ∧ row.covers cw = true ∧
      i = row.mnemonic.operands (Fields.split cw) := by
  unfold decode
  constructor
  · intro h
    split at h
    · cases h
    · next row hr =>
      split at h
      · next hc =>
        cases h
        exact ⟨row, ((find_row _ _).1 hr).1, ((find_row _ _).1 hr).2, hc, rfl⟩
      · cases h
  · rintro ⟨row, hm, ho, hc, rfl⟩
    rw [(find_row _ _).2 ⟨hm, ho⟩]
    simp [hc]

end Sys2Proof
end

