-- ==== Sys2Proof/Laws/Invariant.lean ====
section
/-! SUPPORT. A check of the invariant that evaluates, for concrete states. -/

namespace Sys2Proof.Safety

open Sys2Proof.Machine

/-- What a held channel, `XFER`, `HOST` and `ST` have to do with each other. -/
def senderCheck (s : State) : Bool :=
  (match s.ch with
    | .available c => decide (c < s.par.nchan) && s.plat.chanBit c && s.xfer.conf == beginXferConf
    | .unavailable => !s.xfer.active) &&
  (!s.xfer.active || (decide (1 ≤ s.xfer.rem.toNat) && decide (s.xfer.rptr.toNat + s.xfer.rem.toNat = s.cfg.n) &&
    (s.host == .idle || s.host == .waitXfer))) &&
  (match s.host with
    | .pushing i _ => s.ch == .unavailable && !s.xfer.active && decide (i.toNat < s.cfg.n) && s.st == .transmitting
    | .idle => (s.st == .transmitting) == s.xfer.active
    | .waitXfer => (s.st == .transmitting) == s.xfer.active
    | .latchWait => (s.st == .transmitting) == s.xfer.active)

/-- What a held slot and `ST` have to do with each other. -/
def slotCheck (s : State) : Bool :=
  match s.slot with
  | none => s.st == .uninitialized && s.ch == .unavailable && !s.xfer.active && s.fifo.isEmpty && s.host == .idle
  | some k => s.st != .uninitialized && decide (k < s.par.nslots) && s.plat.slotBit s.cfg.block k &&
      (match s.plat.program s.cfg.block with
        | .notLoaded => false
        | .loaded _ => true) &&
      s.te == ⟨s.cfg.pin, s.cfg.rateHz, s.cfg.width⟩

/-- Whether every word event of the log has the strip's width and fits it. -/
def wireCheck (s : State) : Bool :=
  s.wire.all (fun e =>
    match e with
    | .word v w => w == s.cfg.width && decide (v.toNat < 2 ^ w.bits)
    | .latch => true
    | .abort => true)

/-- All of the invariant but the gamma table. -/
def invCheck (s : State) : Bool :=
  s.par.wf && s.cfg.wf s.par && s.plat.wf s.par && Memory.wf s && senderCheck s && slotCheck s && wireCheck s

theorem inv_of_check (s : State) (h : invCheck s = true) (gamma : s.gt = if s.gen then s.par.gammaCurve else identityGamma) :
    StateInv s := by
  simp only [invCheck, Bool.and_eq_true] at h
  obtain ⟨⟨⟨⟨⟨⟨h1, h2⟩, h3⟩, h4⟩, h5⟩, h6⟩, h7⟩ := h
  simp only [senderCheck, Bool.and_eq_true] at h5
  obtain ⟨⟨hc, ha⟩, hh⟩ := h5
  constructor
  · exact ⟨h1, h2, h3⟩
  · exact h4
  · exact gamma
  · unfold slotCheck at h6; split at h6 <;> simp_all
  · intro hu; unfold slotCheck at h6; split at h6 <;> simp_all
  · intro k hk
    simp only [slotCheck, hk, Bool.and_eq_true, decide_eq_true_eq] at h6
    refine ⟨h6.1.1.1.2, h6.1.1.2, ?_⟩
    cases hp : s.plat.program s.cfg.block with
    | notLoaded => simp [hp] at h6
    | loaded off => exact ⟨off, rfl⟩
  · intro c hc'; simp_all
  · intro hact
    simp only [hact, Bool.not_true, Bool.false_or, Bool.and_eq_true, decide_eq_true_eq, Bool.or_eq_true, beq_iff_eq] at ha
    refine ⟨?_, ha.1.1, ha.1.2, ha.2⟩
    cases hch : s.ch with
    | unavailable => simp [hch, hact] at hc
    | available c => exact ⟨c, rfl⟩
  · intro i k hp; simp_all
  · cases hp : s.host with
    | pushing i k => simp_all
    | latchWait => simp_all
    | idle => simp [hp] at hh; simp [← hh]
    | waitXfer => simp [hp] at hh; simp [← hh]
  · intro v w hm
    have := List.all_eq_true.1 h7 _ hm
    simpa using this
  · intro hs; unfold slotCheck at h6; split at h6 <;> simp_all
  · intro c hc'; simp_all

end Sys2Proof.Safety
end

