-- ==== Sys2Proof/Laws/PerInstr.lean ====
section
/-! SUPPORT. What holds of every command, one lemma for each: the word it is sent with keeps the fields that its format does
not use at zero (30_encoding.md R82). -/

namespace Sys2Proof.Laws.FieldsWf

/-- The command is well formed. -/
def Statement (i : Instr) : Prop := i.wf = true

theorem setallRgb (r g b : Byte) : Statement (.setallRgb r g b) := rfl
theorem setallRgbw (r g b w : Byte) : Statement (.setallRgbw r g b w) := rfl
theorem setpixelRgb (index : Idx) (r g b : Byte) : Statement (.setpixelRgb index r g b) := rfl
theorem setpixelRgbw (index : Idx) (r g b w : Byte) : Statement (.setpixelRgbw index r g b w) := rfl
theorem clear : Statement .clear := rfl
theorem setbrightness (b : Byte) : Statement (.setbrightness b) := rfl
theorem enablegamma (on : Bool) : Statement (.enablegamma on) := by cases on <;> rfl
theorem beginCmd : Statement .beginCmd := rfl
theorem showCmd : Statement .showCmd := rfl
theorem showasync : Statement .showasync := rfl
theorem busy : Statement .busy := rfl
theorem wait : Statement .wait := rfl
theorem endCmd : Statement .endCmd := rfl
theorem size : Statement .size := rfl

end Sys2Proof.Laws.FieldsWf
end

