-- ==== Sys2Proof/Laws/Step.lean ====
section
/-! SUPPORT. The inversions of the agents' steps, of a turn and of `step`, and runs. -/

namespace Sys2Proof.Machine

/-! ### The agents' steps: when they are enabled and what they give -/

theorem xferMove_some (s t : State) :
    s.xferMove = some t ↔ s.xfer.active = true ∧ s.fifo.length < s.par.fifoDepth ∧
      ∃ w, s.readSB s.xfer.rptr.toNat = some w ∧ s.moveWord w = t := by
  simp [State.xferMove, State.fifoRoom, and_assoc]

theorem waitXferDone_some (s t : State) :
    s.waitXferDone = some t ↔ s.host = .waitXfer ∧ (s.ch = .unavailable ∨ s.xfer.active = false) ∧
      s.setPhase .latchWait = t := by
  simp [State.waitXferDone, and_assoc]

theorem pushWord_some (s t : State) :
    s.pushWord = some t ↔ ∃ i k w, s.host = .pushing i k ∧ s.fifo.length < s.par.fifoDepth ∧
      s.readSB i.toNat = some w ∧ s.pushed i k w = t := by
  unfold State.pushWord
  split <;> simp_all [State.fifoRoom]

theorem latchDone_some (s t : State) :
    s.latchDone = some t ↔ s.host = .latchWait ∧ s.fifo = [] ∧ (s.logWire .latch).respond 0 = t := by
  simp [State.latchDone, and_assoc]

theorem shiftWord_some (s t : State) :
    s.shiftWord = some t ↔ ∃ k w q, s.slot = some k ∧ s.fifo = w :: q ∧
      (s.setFifo q).logWire (.word (topBits w s.te.width) s.te.width) = t := by
  unfold State.shiftWord
  split
  · simp_all
  · next k hk =>
    simp only [Option.map_eq_some_iff, Prod.exists, popFifo_some, hk]
    constructor
    · rintro ⟨w, u, ⟨q, hq, rfl⟩, ht⟩
      exact ⟨k, w, q, rfl, hq, ht⟩
    · rintro ⟨_, w, q, -, hq, ht⟩
      exact ⟨w, _, ⟨q, hq, rfl⟩, ht⟩

theorem idleGap_some (s t : State) :
    s.idleGap = some t ↔ (∃ k, s.slot = some k) ∧ s.host = .idle ∧ s.xfer.active = false ∧ s.fifo = [] ∧
      s.logWire .latch = t := by
  simp [State.idleGap, Option.isSome_iff_exists, and_assoc]

/-- The move of one word, by whether it is the last of the transfer. -/
theorem moveWord_eq (s : State) (w : Word32) :
    s.moveWord w =
      if s.xfer.rem - 1 = 0 then
        ((s.pushFifo w).setXfer ⟨false, s.xfer.rptr + 1, s.xfer.rem - 1, s.xfer.conf⟩).setEngine .ready
      else (s.pushFifo w).setXfer ⟨s.xfer.active, s.xfer.rptr + 1, s.xfer.rem - 1, s.xfer.conf⟩ := rfl

/-- A pushed word, by whether it is the last of the frame and by what follows the frame. -/
theorem pushed_eq (s : State) (i : Idx) (k : AfterPush) (w : Word32) :
    s.pushed i k w =
      if i.toNat + 1 < s.cfg.n then (s.pushFifo w).setPhase (.pushing (i + 1) k)
      else match k with
        | .thenLatch => ((s.pushFifo w).setEngine .ready).setPhase .latchWait
        | .thenReturn => ((s.pushFifo w).setEngine .ready).respond 0 := rfl

/-! ### A turn -/

/-- What a turn of agent `a` can do in an unfaulted state: nothing, one of the agent's steps, or, of an idle host, the
acceptance of a command word. -/
inductive TurnEffect (a : Agent) (s t : State) : Prop
  | stutter (eq : t = s)
  | command (cw : Cmd) (rest : List Cmd) (i : Instr) (by_ : a = .host) (idle : s.host = .idle) (port : s.port = cw :: rest)
      (legal : decode cw = .ok i) (effect : CommandEffect i (s.setPort rest) t)
  | reserved (cw : Cmd) (rest : List Cmd) (e : Reserved) (by_ : a = .host) (idle : s.host = .idle)
      (port : s.port = cw :: rest) (bad : decode cw = .error e)
      (eq : t = (s.setPort rest).withFault (.illegalCommand cw))
  | waitXferDone (by_ : a = .host) (held : s.host = .waitXfer) (ready : s.ch = .unavailable ∨ s.xfer.active = false)
      (eq : t = s.setPhase .latchWait)
  | pushWord (i : Idx) (k : AfterPush) (w : Word32) (by_ : a = .host) (held : s.host = .pushing i k)
      (room : s.fifo.length < s.par.fifoDepth) (word : s.readSB i.toNat = some w) (eq : t = s.pushed i k w)
  | latchDone (by_ : a = .host) (held : s.host = .latchWait) (empty : s.fifo = [])
      (eq : t = (s.logWire .latch).respond 0)
  | xferMove (w : Word32) (by_ : a = .channel) (active : s.xfer.active = true) (room : s.fifo.length < s.par.fifoDepth)
      (word : s.readSB s.xfer.rptr.toNat = some w) (eq : t = s.moveWord w)
  | shiftWord (k : Nat) (w : Word32) (q : List Word32) (by_ : a = .engine) (slot : s.slot = some k) (queue : s.fifo = w :: q)
      (eq : t = (s.setFifo q).logWire (.word (topBits w s.te.width) s.te.width))
  | idleGap (by_ : a = .time) (slot : ∃ k, s.slot = some k) (idle : s.host = .idle) (inactive : s.xfer.active = false)
      (empty : s.fifo = []) (eq : t = s.logWire .latch)

/-- A turn that is taken gives what the enabled step gives, or nothing moves. -/
theorem getD_cases (u : Option State) (s t : State) (h : u.getD s = t) : u = some t ∨ t = s := by
  cases u with
  | none => exact .inr h.symm
  | some v => exact .inl (congrArg some h)

theorem agentTurn_effect (a : Agent) (s t : State) (h : agentTurn a s = .next t) : TurnEffect a s t := by
  cases a with
  | host =>
    simp only [agentTurn, hostTurn] at h
    split at h
    · next hi =>
      split at h
      · exact .stutter (Host.Outcome.next.inj h).symm
      · next cw rest hp =>
        unfold accept at h
        split at h
        · next i hd => exact .command cw rest i rfl hi hp hd (exec_effect _ _ _ h)
        · next e hd => exact .reserved cw rest e rfl hi hp hd (Host.Outcome.next.inj h).symm
    · next i k hp =>
      rcases getD_cases _ s t (Host.Outcome.next.inj h) with hu | ht
      · simp only [State.heldStep, hp] at hu
        obtain ⟨i', k', w, h1, h2, h3, h4⟩ := (pushWord_some _ _).1 hu
        exact .pushWord i' k' w rfl h1 h2 h3 h4.symm
      · exact .stutter ht
    · next hw =>
      rcases getD_cases _ s t (Host.Outcome.next.inj h) with hu | ht
      · simp only [State.heldStep, hw] at hu
        obtain ⟨h1, h2, h3⟩ := (waitXferDone_some _ _).1 hu
        exact .waitXferDone rfl h1 h2 h3.symm
      · exact .stutter ht
    · next hl =>
      rcases getD_cases _ s t (Host.Outcome.next.inj h) with hu | ht
      · simp only [State.heldStep, hl] at hu
        obtain ⟨h1, h2, h3⟩ := (latchDone_some _ _).1 hu
        exact .latchDone rfl h1 h2 h3.symm
      · exact .stutter ht
  | channel =>
    rcases getD_cases _ s t (Host.Outcome.next.inj h) with hu | ht
    · obtain ⟨h1, h2, w, h3, h4⟩ := (xferMove_some _ _).1 hu
      exact .xferMove w rfl h1 h2 h3 h4.symm
    · exact .stutter ht
  | engine =>
    rcases getD_cases _ s t (Host.Outcome.next.inj h) with hu | ht
    · obtain ⟨k, w, q, h1, h2, h3⟩ := (shiftWord_some _ _).1 hu
      exact .shiftWord k w q rfl h1 h2 h3.symm
    · exact .stutter ht
  | time =>
    rcases getD_cases _ s t (Host.Outcome.next.inj h) with hu | ht
    · obtain ⟨h1, h2, h3, h4, h5⟩ := (idleGap_some _ _).1 hu
      exact .idleGap rfl h1 h2 h3 h4 h5.symm
    · exact .stutter ht

/-! ### The step -/

theorem step_of_fault (s : State) (f : Fault) (h : s.fault = some f) : step s = .fault f := by
  simp [step, h]

theorem step_of_safe (s : State) (h : s.fault = none) : step s = agentTurn s.nextAgent s.takeTurn := by
  simp [step, h, runTurn]

/-- The inversion of `step`: a state it answers comes from an unfaulted one by the turn of the agent that moves. -/
theorem step_effect (s t : State) (h : step s = .next t) :
    s.fault = none ∧ TurnEffect s.nextAgent s.takeTurn t := by
  cases hf : s.fault with
  | some f => simp [step_of_fault s f hf] at h
  | none => exact ⟨rfl, agentTurn_effect _ _ _ (step_of_safe s hf ▸ h)⟩

/-- An accepted word always answers a next state. -/
theorem accept_next (cw : Cmd) (s : State) : ∃ t, accept cw s = .next t := by
  unfold accept
  split
  · exact exec_next _ _
  · exact ⟨_, rfl⟩

/-- Every turn answers a next state. -/
theorem agentTurn_next (a : Agent) (s : State) : ∃ t, agentTurn a s = .next t := by
  cases a with
  | host =>
    simp only [agentTurn, hostTurn]
    split
    · split
      · exact ⟨_, rfl⟩
      · exact accept_next _ _
    all_goals exact ⟨_, rfl⟩
  | channel => exact ⟨_, rfl⟩
  | engine => exact ⟨_, rfl⟩
  | time => exact ⟨_, rfl⟩

/-- An unfaulted state has a successor. -/
theorem step_next (s : State) (h : s.fault = none) : ∃ t, step s = .next t := by
  rw [step_of_safe s h]
  exact agentTurn_next _ _

/-! ### Runs -/

@[simp] theorem run_zero (s : State) : Host.Core.run Sys2Proof.core 0 s = .next s := rfl

theorem run_succ (k : Nat) (s t : State) (h : step s = .next t) :
    Host.Core.run Sys2Proof.core (k + 1) s = Host.Core.run Sys2Proof.core k t := by
  simp only [Host.Core.run]
  rw [show Sys2Proof.core.step s = .next t from h]

/-- A run of `k + 1` steps begins with one step. -/
theorem run_succ_inv (k : Nat) (s t : State) (h : Host.Core.run Sys2Proof.core (k + 1) s = .next t) :
    ∃ u, step s = .next u ∧ Host.Core.run Sys2Proof.core k u = .next t := by
  cases hs : step s with
  | next u => exact ⟨u, rfl, run_succ k s u hs ▸ h⟩
  | fault f =>
    simp only [Host.Core.run] at h
    rw [show Sys2Proof.core.step s = .fault f from hs] at h
    simp at h
  | refused r =>
    simp only [Host.Core.run] at h
    rw [show Sys2Proof.core.step s = .refused r from hs] at h
    simp at h

end Sys2Proof.Machine
end

