-- ==== Sys2Proof/Machine/Assembler.lean ====
section
/-! DEFINITION. The assembler syntax of 30_encoding.md R89, written and read, and the source's API spellings of R90. It is the
transport of the programs of 95_test_vectors.md and no part of the hardware (DESIGN CHOICE, log entry 18). -/

namespace Sys2Proof.Machine

/-- The source's operation names in capitals (R89), as the opcode table spells them. -/
def mnemonicText : Mnemonic → String
  | .setallRgb => "SETALL_RGB"
  | .setallRgbw => "SETALL_RGBW"
  | .setpixelRgb => "SETPIXEL_RGB"
  | .setpixelRgbw => "SETPIXEL_RGBW"
  | .clear => "CLEAR"
  | .setbrightness => "SETBRIGHTNESS"
  | .enablegamma => "ENABLEGAMMA"
  | .beginCmd => "BEGIN"
  | .showCmd => "SHOW"
  | .showasync => "SHOWASYNC"
  | .busy => "BUSY"
  | .wait => "WAIT"
  | .endCmd => "END"
  | .size => "SIZE"

/-- The operands of a command in the order its line writes them. -/
def operandList : Instr → List Nat
  | .setallRgb r g b => [r.toNat, g.toNat, b.toNat]
  | .setallRgbw r g b w => [r.toNat, g.toNat, b.toNat, w.toNat]
  | .setpixelRgb index r g b => [index.toNat, r.toNat, g.toNat, b.toNat]
  | .setpixelRgbw index r g b w => [index.toNat, r.toNat, g.toNat, b.toNat, w.toNat]
  | .clear => []
  | .setbrightness b => [b.toNat]
  | .enablegamma on => [if on then 1 else 0]
  | .beginCmd => []
  | .showCmd => []
  | .showasync => []
  | .busy => []
  | .wait => []
  | .endCmd => []
  | .size => []

/-- The line of a command (R89): mnemonic, then the operands in decimal, separated by commas. -/
def assembly (i : Instr) : String :=
  match operandList i with
  | [] => mnemonicText i.mnemonic
  | xs => mnemonicText i.mnemonic ++ " " ++ String.intercalate ", " (xs.map Nat.repr)

/-- How a wire format is written (R89). -/
def fmtText : Fmt → String
  | .rgb => "RGB"
  | .rgbw => "RGBW"

/-- The first line of a program: the construction parameters (R89). -/
def constructLine (c : Cfg) : String :=
  "CONSTRUCT " ++ String.intercalate ", "
    [Nat.repr c.pin, Nat.repr c.n, fmtText c.fmt, Nat.repr c.rateHz, Nat.repr c.block, Int.repr c.slotReq]

/-! ### Reading a line -/

/-- The text cut at every `sep`; at least one piece. -/
def cutAt (sep : Char) : List Char → List (List Char)
  | [] => [[]]
  | c :: cs =>
    match cutAt sep cs with
    | [] => [[]]
    | piece :: pieces => if c = sep then [] :: piece :: pieces else (c :: piece) :: pieces

/-- Without the spaces at either end. -/
def trimSpaces (cs : List Char) : List Char :=
  ((cs.dropWhile (· = ' ')).reverse.dropWhile (· = ' ')).reverse

/-- The value of a digit, in either case. -/
def digitValue (c : Char) : Nat :=
  if c.toNat < 48 then 16
  else if c.toNat ≤ 57 then c.toNat - 48
  else if 65 ≤ c.toNat ∧ c.toNat ≤ 70 then c.toNat - 55
  else if 97 ≤ c.toNat ∧ c.toNat ≤ 102 then c.toNat - 87
  else 16

/-- The number of a list of digits, the most significant first. -/
def digits (base : Nat) (acc : Nat) : List Char → Option Nat
  | [] => some acc
  | c :: cs => if digitValue c < base then digits base (base * acc + digitValue c) cs else none

/-- "Numbers are decimal, or hexadecimal with `0x`" (R89). -/
def readNumber : List Char → Option Nat
  | [] => none
  | '0' :: 'x' :: c :: cs => digits 16 0 (c :: cs)
  | c :: cs => digits 10 0 (c :: cs)

/-- A number that fits in `n` bits. -/
def readBits (n : Nat) (cs : List Char) : Option (BitVec n) :=
  match readNumber cs with
  | some v => if v < 2 ^ n then some (BitVec.ofNat n v) else none
  | none => none

/-- The word before the first space, and what follows it. -/
def firstWord (cs : List Char) : List Char × List Char :=
  (cs.takeWhile (· ≠ ' '), trimSpaces (cs.dropWhile (· ≠ ' ')))

/-- The operands of a line, separated by commas. -/
def operandTexts (cs : List Char) : List (List Char) :=
  if cs.isEmpty then [] else (cutAt ',' cs).map trimSpaces

/-- The mnemonics in the order of their opcodes (R85). -/
def allMnemonics : List Mnemonic :=
  [.setallRgb, .setallRgbw, .setpixelRgb, .setpixelRgbw, .clear, .setbrightness, .enablegamma, .beginCmd, .showCmd, .showasync,
    .busy, .wait, .endCmd, .size]

/-- The command of a mnemonic and its operand texts; none where the operands are not those of R89's line. -/
def readOperands (m : Mnemonic) (xs : List (List Char)) : Option Instr :=
  match m, xs with
  | .setallRgb, [r, g, b] => do return .setallRgb (← readBits 8 r) (← readBits 8 g) (← readBits 8 b)
  | .setallRgbw, [r, g, b, w] =>
    do return .setallRgbw (← readBits 8 r) (← readBits 8 g) (← readBits 8 b) (← readBits 8 w)
  | .setpixelRgb, [i, r, g, b] =>
    do return .setpixelRgb (← readBits 24 i) (← readBits 8 r) (← readBits 8 g) (← readBits 8 b)
  | .setpixelRgbw, [i, r, g, b, w] =>
    do return .setpixelRgbw (← readBits 24 i) (← readBits 8 r) (← readBits 8 g) (← readBits 8 b) (← readBits 8 w)
  | .clear, [] => some .clear
  | .setbrightness, [b] => do return .setbrightness (← readBits 8 b)
  | .enablegamma, [on] => do return .enablegamma ((← readBits 1 on) == 1)
  | .beginCmd, [] => some .beginCmd
  | .showCmd, [] => some .showCmd
  | .showasync, [] => some .showasync
  | .busy, [] => some .busy
  | .wait, [] => some .wait
  | .endCmd, [] => some .endCmd
  | .size, [] => some .size
  | _, _ => none

/-- A command line (R89). -/
def readCommand (line : List Char) : Option Instr :=
  match allMnemonics.find? (fun m => (mnemonicText m).toList == (firstWord (trimSpaces line)).1) with
  | none => none
  | some m => readOperands m (operandTexts (firstWord (trimSpaces line)).2)

/-- The part of a line before `->` and the part after it, if there is one. -/
def cutResponse : List Char → List Char × Option (List Char)
  | [] => ([], none)
  | '-' :: '>' :: cs => ([], some cs)
  | c :: cs => (c :: (cutResponse cs).1, (cutResponse cs).2)

/-- A line of a program listing: a command and, after `->`, the response it is expected to give (R89). -/
def readLine (line : List Char) : Option (Instr × Option Word32) :=
  match readCommand (cutResponse line).1, (cutResponse line).2 with
  | some i, none => some (i, none)
  | some i, some v => (readBits 32 (trimSpaces v)).map (fun w => (i, some w))
  | none, _ => none

/-- `RGB` or `RGBW`. -/
def readFmt (cs : List Char) : Option Fmt :=
  if cs = ['R', 'G', 'B'] then some .rgb else if cs = ['R', 'G', 'B', 'W'] then some .rgbw else none

/-- A number or one with a minus sign: `slot_req` is the one signed quantity (00_scope.md R8). -/
def readInt : List Char → Option Int
  | '-' :: cs => (readNumber cs).map (fun v => -(v : Int))
  | cs => (readNumber cs).map Int.ofNat

/-- The line `CONSTRUCT pin, n, fmt, rate_hz, block, slot_req` (R89). -/
def readConstruct (line : List Char) : Option Cfg :=
  if (firstWord (trimSpaces line)).1 = ['C', 'O', 'N', 'S', 'T', 'R', 'U', 'C', 'T'] then
    match operandTexts (firstWord (trimSpaces line)).2 with
    | [pin, n, fmt, rate, block, slot] =>
      do return ⟨← readNumber pin, ← readNumber n, ← readFmt fmt, ← readNumber rate, ← readNumber block, ← readInt slot⟩
    | _ => none
  else none

/-! ### The API spellings -/

/-- The source's overloaded setters, called with either colour type (R90). -/
inductive ApiCall where
  | setAllRgb (c : Rgb)
  | setAllRgbw (c : Pixel)
  | setPixelRgb (index : Idx) (c : Rgb)
  | setPixelRgbw (index : Idx) (c : Pixel)
  deriving DecidableEq, Repr

/-- The command an API spelling stands for (R90); `setPixel(i, hsv(h,s,v))` is the third with the colour computed by
Machine/Hsv.lean. -/
def ApiCall.command : ApiCall → Instr
  | .setAllRgb c => .setallRgb c.r c.g c.b
  | .setAllRgbw c => .setallRgbw c.r c.g c.b c.w
  | .setPixelRgb index c => .setpixelRgb index c.r c.g c.b
  | .setPixelRgbw index c => .setpixelRgbw index c.r c.g c.b c.w

end Sys2Proof.Machine
end

