-- ==== Sys2Proof/Tests/Slice0.lean ====
section
/-! SUPPORT. The model's own tests; the expected values are those of 95_test_vectors.md or of the rule named. The second
half holds the witnesses of the statements' hypotheses, one theorem `witness_<statement>` each. -/

namespace Sys2Proof.Tests

open Sys2Proof.Machine Sys2Proof.Safety

/-! ### Decoding (95_test_vectors.md 2.1, 30_encoding.md R91): the words are the spec's -/

theorem test_decode_setall :
    decode 0x01000000C8643200 = .ok (.setallRgb 200 100 50) ∧ decode 0x0200000001020304 = .ok (.setallRgbw 1 2 3 4) := by
  decide

theorem test_decode_setpixel :
    decode 0x0300000212345600 = .ok (.setpixelRgb 2 0x12 0x34 0x56) ∧
    decode 0x03FFFFFF01010100 = .ok (.setpixelRgb 16777215 1 1 1) ∧
    decode 0x04000001FFFFFFFF = .ok (.setpixelRgbw 1 255 255 255 255) ∧
    decode 0x04FFFFFF00000000 = .ok (.setpixelRgbw 16777215 0 0 0 0) := by decide

theorem test_decode_clear_size :
    decode 0x0500000000000000 = .ok .clear ∧ decode 0x0E00000000000000 = .ok .size := by decide

theorem test_decode_pipeline :
    decode 0x0600000000000000 = .ok (.setbrightness 0) ∧ decode 0x06000000000000FF = .ok (.setbrightness 255) ∧
    decode 0x0700000000000000 = .ok (.enablegamma false) ∧ decode 0x0700000000000001 = .ok (.enablegamma true) := by decide

theorem test_decode_engine :
    decode 0x0800000000000000 = .ok .beginCmd ∧ decode 0x0900000000000000 = .ok .showCmd ∧
    decode 0x0A00000000000000 = .ok .showasync ∧ decode 0x0B00000000000000 = .ok .busy ∧
    decode 0x0C00000000000000 = .ok .wait ∧ decode 0x0D00000000000000 = .ok .endCmd := by decide

/-- One word a family, its bits in the order of R81: `OP`, `IDX`, then the bytes of `DATA`. -/
theorem test_decode_bit_by_bit :
    decode 0b0000001100000000000000000000001000010010001101000101011000000000 = .ok (.setpixelRgb 2 0x12 0x34 0x56) ∧
    decode 0b0000011000000000000000000000000000000000000000000000000010000000 = .ok (.setbrightness 128) ∧
    decode 0b0000100100000000000000000000000000000000000000000000000000000000 = .ok .showCmd := by decide

/-- The reserved words of 95_test_vectors.md 2.1. -/
theorem test_decode_reserved :
    decode 0x0000000000000000 = .error (.opcode 0x00) ∧ decode 0x0F00000000000000 = .error (.opcode 0x0F) ∧
    decode 0xFF00000000000000 = .error (.opcode 0xFF) ∧ decode 0x0900000000000001 = .error (.unusedField .showCmd) ∧
    decode 0x0500000100000000 = .error (.unusedField .clear) ∧ decode 0x01000000FF000001 = .error (.unusedField .setallRgb) ∧
    decode 0x0100000100000000 = .error (.unusedField .setallRgb) ∧
    decode 0x0600000000000100 = .error (.unusedField .setbrightness) ∧
    decode 0x0700000000000002 = .error (.unusedField .enablegamma) ∧
    decode 0x0300000212345601 = .error (.unusedField .setpixelRgb) := by decide

theorem test_encode :
    encode (.setallRgbw 1 2 3 4) = 0x0200000001020304 ∧ encode (.setpixelRgb 2 0x12 0x34 0x56) = 0x0300000212345600 ∧
    encode (.setbrightness 128) = 0x0600000000000080 ∧ encode (.enablegamma true) = 0x0700000000000001 ∧
    encode .size = 0x0E00000000000000 := by decide

theorem test_decodeTableWord :
    decodeTableWord 64 0x0300000212345600 = some (.setpixelRgb 2 0x12 0x34 0x56) ∧ decodeTableWord 64 0 = none := by decide

/-! ### Well-formedness: each check refuses an ill-formed term -/

/-- One field that is not zero, for each field each format does not use (R82). -/
theorem test_format_unused_fields_refused :
    Format.N.unusedZero ⟨0x05, 1, 0, 0, 0, 0⟩ = false ∧ Format.N.unusedZero ⟨0x05, 0, 1, 0, 0, 0⟩ = false ∧
    Format.N.unusedZero ⟨0x05, 0, 0, 1, 0, 0⟩ = false ∧ Format.N.unusedZero ⟨0x05, 0, 0, 0, 1, 0⟩ = false ∧
    Format.N.unusedZero ⟨0x05, 0, 0, 0, 0, 1⟩ = false ∧ Format.C3.unusedZero ⟨0x01, 1, 0, 0, 0, 0⟩ = false ∧
    Format.C3.unusedZero ⟨0x01, 0, 0, 0, 0, 1⟩ = false ∧ Format.C4.unusedZero ⟨0x02, 1, 0, 0, 0, 0⟩ = false ∧
    Format.P3.unusedZero ⟨0x03, 0, 0, 0, 0, 1⟩ = false ∧ Format.B.unusedZero ⟨0x06, 1, 0, 0, 0, 0⟩ = false ∧
    Format.B.unusedZero ⟨0x06, 0, 1, 0, 0, 0⟩ = false ∧ Format.B.unusedZero ⟨0x06, 0, 0, 1, 0, 0⟩ = false ∧
    Format.B.unusedZero ⟨0x06, 0, 0, 0, 1, 0⟩ = false ∧ Format.F.unusedZero ⟨0x07, 1, 0, 0, 0, 0⟩ = false ∧
    Format.F.unusedZero ⟨0x07, 0, 1, 0, 0, 0⟩ = false ∧ Format.F.unusedZero ⟨0x07, 0, 0, 1, 0, 0⟩ = false ∧
    Format.F.unusedZero ⟨0x07, 0, 0, 0, 1, 0⟩ = false ∧ Format.F.unusedZero ⟨0x07, 0, 0, 0, 0, 2⟩ = false := by decide

/-- What each format does use may hold anything. -/
theorem test_format_used_fields_accepted :
    Format.N.unusedZero ⟨0x05, 0, 0, 0, 0, 0⟩ = true ∧ Format.C3.unusedZero ⟨0x01, 0, 255, 255, 255, 0⟩ = true ∧
    Format.C4.unusedZero ⟨0x02, 0, 255, 255, 255, 255⟩ = true ∧ Format.P3.unusedZero ⟨0x03, 0xFFFFFF, 255, 255, 255, 0⟩ = true ∧
    Format.P4.unusedZero ⟨0x04, 0xFFFFFF, 255, 255, 255, 255⟩ = true ∧ Format.B.unusedZero ⟨0x06, 0, 0, 0, 0, 255⟩ = true ∧
    Format.F.unusedZero ⟨0x07, 0, 0, 0, 0, 1⟩ = true := by decide

/-- The platform of 95_test_vectors.md part 3, with `nchan` transfer channels and a queue of `depth` words. -/
def platform (nchan depth : Nat) : Params := ⟨depth, 1, 4, nchan, [true], 80, Config.defaultGamma⟩

theorem test_params_refused :
    (platform 1 4).wf = true ∧ (platform 1 0).wf = false ∧ ({ platform 1 4 with nblocks := 0, progFits := [] } : Params).wf = false ∧
    ({ platform 1 4 with nslots := 0 } : Params).wf = false ∧ ({ platform 1 4 with progFits := [] } : Params).wf = false ∧
    ({ platform 1 4 with tResetUs := 79 } : Params).wf = false := by decide

/-- The illegal configurations of 93_implementation_defined.md U13. -/
theorem test_cfg_refused :
    Cfg.wf (platform 1 4) ⟨2, 3, .rgb, 800000, 0, -1⟩ = true ∧ Cfg.wf (platform 1 4) ⟨2, 0, .rgb, 800000, 0, -1⟩ = false ∧
    Cfg.wf (platform 1 4) ⟨2, 2 ^ 24, .rgb, 800000, 0, -1⟩ = false ∧ Cfg.wf (platform 1 4) ⟨2, 3, .rgb, 0, 0, -1⟩ = false ∧
    Cfg.wf (platform 1 4) ⟨2, 3, .rgb, 800000, 1, -1⟩ = false ∧ Cfg.wf (platform 1 4) ⟨2, 3, .rgb, 800000, 0, 4⟩ = false ∧
    Cfg.wf (platform 1 4) ⟨2, 3, .rgb, 800000, 0, -2⟩ = false := by decide

theorem test_plat_refused :
    (Plat.unused (platform 1 4)).wf (platform 1 4) = true ∧
    Plat.wf (platform 1 4) ⟨[], [[false, false, false, false]], [false]⟩ = false ∧
    Plat.wf (platform 1 4) ⟨[.notLoaded], [], [false]⟩ = false ∧ Plat.wf (platform 1 4) ⟨[.notLoaded], [[false]], [false]⟩ = false ∧
    Plat.wf (platform 1 4) ⟨[.notLoaded], [[false, false, false, false]], []⟩ = false := by decide

theorem test_construct_refuses_an_empty_strip :
    State.construct ⟨2, 0, .rgb, 800000, 0, -1⟩ resetParams (Plat.unused resetParams) [] [] TimingEngine.reset = none := by
  decide

theorem test_memory_wf_refuses_a_short_buffer : Memory.wf { State.reset with pb := [Pixel.off] } = false := by decide

theorem test_event_wf : Event.wf (.word 0xFFFFFF .w24) = true ∧ Event.wf (.word 0x1000000 .w24) = false := by decide

/-! ### Small states -/

/-- A configuration of 95_test_vectors.md with `n` pixels. -/
def config (n : Nat) (fmt : Fmt) : Cfg := ⟨2, n, fmt, 800000, 0, -1⟩

/-- The pixels of 95_test_vectors.md 2.2. -/
def threePixels : List Pixel := [⟨1, 1, 1, 1⟩, ⟨2, 2, 2, 2⟩, ⟨3, 3, 3, 3⟩]

/-- After construction, with `n` pixels and `nchan` channels. -/
def constructed (n nchan depth : Nat) (fmt : Fmt) : State :=
  State.constructed (config n fmt) (platform nchan depth) (Plat.unused (platform nchan depth)) (threePixels.take n)
    (List.replicate n 0) TimingEngine.reset

/-- After a BEGIN that took slot 0 and channel 0. -/
def readyChannel (n : Nat) (fmt : Fmt) : State :=
  { constructed n 1 4 fmt with
    st := .ready, slot := some 0, ch := .available 0, te := ⟨2, 800000, fmt.width⟩, xfer := ⟨false, 0, 0, beginXferConf⟩,
    plat := ⟨[.loaded 0], [[true, false, false, false]], [true]⟩ }

/-- After a BEGIN that took slot 0 and found no channel. -/
def readyPush (n : Nat) (fmt : Fmt) : State :=
  { constructed n 0 4 fmt with
    st := .ready, slot := some 0, te := ⟨2, 800000, fmt.width⟩, plat := ⟨[.loaded 0], [[true, false, false, false]], []⟩ }

/-- A transfer in flight: `rptr` words moved of `n`, `host` held or idle. -/
def sending (n rptr : Nat) (host : Phase) (fifo : List Word32) : State :=
  { readyChannel n .rgb with
    st := .transmitting, host := host, fifo := fifo, sb := List.replicate n 0x34125600,
    xfer := ⟨true, BitVec.ofNat 24 rptr, BitVec.ofNat 24 (n - rptr), beginXferConf⟩ }

/-- The host pushing word `i` of `n`. -/
def pushing (n i : Nat) (k : AfterPush) (fifo : List Word32) : State :=
  { readyPush n .rgb with
    st := .transmitting, host := .pushing (BitVec.ofNat 24 i) k, fifo := fifo, sb := List.replicate n 0x34125600 }

/-- `s` with agent `a` to move next. -/
def turn (a : Agent) (s : State) : State := { s with sched := [a] }

/-- `s` with the host to move next and `cw` to be sent. -/
def sends (cw : Cmd) (s : State) : State := { s with sched := [.host], port := [cw] }

/-- The state of a next state. -/
def got (r : Result) : Option State :=
  match r with
  | .next t => some t
  | .fault _ => none
  | .refused _ => none

/-! ### Pixel-buffer commands (95_test_vectors.md 2.2) -/

theorem test_setallRgb :
    (got (exec (.setallRgb 255 0 0) (constructed 3 1 4 .rgb))).map (fun t => (t.pb, t.resp)) =
      some ([⟨255, 0, 0, 0⟩, ⟨255, 0, 0, 0⟩, ⟨255, 0, 0, 0⟩], 0) := by decide

theorem test_setallRgbw :
    (got (exec (.setallRgbw 9 8 7 6) (constructed 3 1 4 .rgb))).map (·.pb) =
      some [⟨9, 8, 7, 6⟩, ⟨9, 8, 7, 6⟩, ⟨9, 8, 7, 6⟩] := by decide

theorem test_setpixelRgb_last :
    (got (exec (.setpixelRgb 2 10 20 30) (constructed 3 1 4 .rgb))).map (·.pb) =
      some [⟨1, 1, 1, 1⟩, ⟨2, 2, 2, 2⟩, ⟨10, 20, 30, 0⟩] := by decide

theorem test_setpixelRgb_at_count :
    got (exec (.setpixelRgb 3 10 20 30) (constructed 3 1 4 .rgb)) = some (constructed 3 1 4 .rgb) := by rfl

theorem test_setpixelRgbw :
    (got (exec (.setpixelRgbw 1 5 6 7 8) (constructed 3 1 4 .rgb))).map (·.pb) =
      some [⟨1, 1, 1, 1⟩, ⟨5, 6, 7, 8⟩, ⟨3, 3, 3, 3⟩] := by decide

theorem test_setpixelRgbw_misuse_out_of_range :
    got (exec (.setpixelRgbw 3 5 6 7 8) (sending 3 0 .idle [])) =
      some { sending 3 0 .idle [] with fault := some (.misuseHazard .setpixelRgbw) } := by rfl

theorem test_clear :
    (got (exec .clear (constructed 3 1 4 .rgb))).map (·.pb) = some [⟨0, 0, 0, 0⟩, ⟨0, 0, 0, 0⟩, ⟨0, 0, 0, 0⟩] := by decide

theorem test_size_during_transfer :
    got (exec .size (sending 3 0 .idle [])) = some { sending 3 0 .idle [] with resp := 3 } := by rfl

/-! ### Colour pipeline (95_test_vectors.md 2.3) -/

theorem test_scale :
    scale 255 255 = 255 ∧ scale 254 254 = 253 ∧ scale 1 1 = 0 ∧ scale 1 127 = 0 ∧ scale 1 128 = 1 ∧ scale 128 128 = 64 ∧
    scale 100 200 = 78 ∧ scale 200 128 = 100 ∧ scale 149 128 = 75 ∧ scale 7 64 = 2 := by decide

/-- The default curve's entries listed there. -/
theorem test_gamma_entries :
    ([0, 1, 14, 15, 16, 24, 25, 32, 50, 64, 100, 127, 128, 200, 254, 255, 0x12, 0x34, 0x56].map
      (fun v : Byte => Config.defaultGamma[v.toNat]'v.isLt)) =
      [0, 0, 0, 1, 1, 1, 2, 3, 7, 12, 33, 55, 56, 149, 253, 255, 1, 8, 23] := by decide

/-- Entry `i` is the unique `k` of R126's inequality. -/
theorem test_gamma_inequality :
    ∀ i : Fin 256, 0 < i.val →
      (Config.defaultGamma[i].toNat = 0 ∨ (2 * Config.defaultGamma[i].toNat - 1) ^ 5 * 255 ^ 11 ≤ i.val ^ 11 * 510 ^ 5) ∧
      i.val ^ 11 * 510 ^ 5 < (2 * Config.defaultGamma[i].toNat + 1) ^ 5 * 255 ^ 11 := by decide +kernel

/-- The four named properties of R126. -/
theorem test_gamma_shape :
    Config.defaultGamma[0] = 0 ∧ Config.defaultGamma[255] = 255 ∧
    (∀ i : Fin 255, Config.defaultGamma[i.val].toNat ≤ Config.defaultGamma[i.val + 1].toNat) ∧
    ∀ i : Fin 256, Config.defaultGamma[i].toNat ≤ i.val := by decide +kernel

theorem test_setbrightness :
    got (exec (.setbrightness 128) State.reset) = some { State.reset with bri := 128 } := by rfl

theorem test_enablegamma :
    (got (exec (.enablegamma true) State.reset)).map (fun t => (t.gen, t.readGT 128, t.readGT 255, t.readGT 15)) =
      some (true, 56, 255, 1) := by decide

theorem test_enablegamma_off_from_reset : got (exec (.enablegamma false) State.reset) = some State.reset := by
  rfl

/-- `apply(200)` with `BRI = 128`, `GEN = 1` (R125). -/
theorem test_apply : ({ State.reset with bri := 128, gen := true, gt := Config.defaultGamma } : State).apply 200 = 75 := by
  decide

/-! ### Frame encoder (95_test_vectors.md 2.4, 42_frame_encoder.md R146) -/

/-- A state with the pipeline at `bri` and the default curve, or without it. -/
def pipeline (bri : Byte) (gen : Bool) : State := (State.reset.setBri bri).setGamma gen

theorem test_pack24 :
    (pipeline 255 false).pack24 ⟨0x12, 0x34, 0x56, 0⟩ = 0x34125600 ∧
    (pipeline 128 false).pack24 ⟨255, 0, 0, 0⟩ = 0x00800000 ∧
    (pipeline 255 true).pack24 ⟨0x12, 0x34, 0x56, 0⟩ = 0x08011700 ∧
    (pipeline 64 true).pack24 ⟨200, 100, 50, 0⟩ = 0x08250200 := by decide

theorem test_pack32 :
    (pipeline 255 false).pack32 ⟨0x10, 0x20, 0x30, 0x40⟩ = 0x20103040 ∧
    (pipeline 128 false).pack32 ⟨0x10, 0x20, 0x30, 0x40⟩ = 0x10081820 ∧
    (pipeline 255 true).pack32 ⟨0, 0, 0, 255⟩ = 0x000000FF ∧
    (pipeline 64 true).pack32 ⟨200, 100, 50, 255⟩ = 0x08250240 := by decide

theorem test_encodeFrame :
    (({ State.reset with pb := [⟨255, 0, 0, 0⟩, ⟨0, 255, 0, 0⟩, ⟨0, 0, 255, 0⟩] } : State).encodeFrame).sb =
      [0x00FF0000, 0xFF000000, 0x0000FF00] := by decide

/-! ### Engine commands (95_test_vectors.md 2.5) -/

theorem test_begin :
    (got (exec .beginCmd (constructed 3 0 4 .rgb))).map (fun t => (t.st, t.resp, t.slot.isSome, t.ch, t.te)) =
      some (.ready, 1, true, .unavailable, ⟨2, 800000, .w24⟩) := by rfl

theorem test_begin_requested_slot :
    (got (exec .beginCmd
      { constructed 3 0 4 .rgb with
        cfg := ⟨2, 3, .rgb, 800000, 0, 2⟩, plat := ⟨[.notLoaded], [[true, true, true, true]], []⟩ })).map (fun t => (t.slot, t.resp)) = some (some 2, 1) := by rfl

theorem test_show_channel :
    (got (exec .showCmd (readyChannel 2 .rgb))).map (fun t => (t.sb, t.st, t.host, t.xfer.active, t.xfer.rem)) =
      some ([0x01010100, 0x02020200], .transmitting, .waitXfer, true, 2) := by decide

theorem test_show_push :
    (got (exec .showCmd (readyPush 2 .rgb))).map (·.host) = some (.pushing 0 .thenLatch) := by decide

theorem test_showasync_channel :
    (got (exec .showasync (readyChannel 2 .rgb))).map (fun t => (t.host, t.resp, t.st, t.xfer)) =
      some (.idle, 0, .transmitting, ⟨true, 0, 2, beginXferConf⟩) := by decide

theorem test_showasync_push :
    (got (exec .showasync (readyPush 2 .rgb))).map (·.host) = some (.pushing 0 .thenReturn) := by decide

theorem test_busy :
    (got (exec .busy (sending 3 0 .idle []))).map (·.resp) = some 1 ∧
    (got (exec .busy (readyChannel 3 .rgb))).map (·.resp) = some 0 := by decide

theorem test_wait :
    (got (exec .wait (readyChannel 3 .rgb))).map (·.host) = some .waitXfer ∧
    (got (exec .wait (constructed 3 1 4 .rgb))).map (fun t => (t.host, t.wire)) = some (.idle, []) := by decide

theorem test_end_in_transfer :
    (got (exec .endCmd (sending 3 1 .idle [0x34125600]))).map (fun t => (t.wire, t.fifo, t.st, t.slot, t.ch, t.xfer.active)) =
      some ([.abort], [], .uninitialized, none, .unavailable, false) := by rfl

theorem test_end_idle :
    (got (exec .endCmd (readyChannel 3 .rgb))).map (fun t => (t.wire, t.plat)) =
      some ([], ⟨[.loaded 0], [[false, false, false, false]], [false]⟩) := by decide

/-! ### Agents (95_test_vectors.md 2.5) -/

theorem test_xferMove :
    (got (step (turn .channel (sending 2 0 .idle [])))).map (fun t => (t.fifo, t.xfer.active, t.xfer.rptr, t.xfer.rem)) =
      some ([0x34125600], true, 1, 1) := by decide

theorem test_xferMove_last :
    (got (step (turn .channel (sending 2 1 .idle [0])))).map (fun t => (t.xfer.active, t.xfer.rptr, t.xfer.rem, t.st)) =
      some (false, 2, 0, .ready) := by decide

theorem test_pushWord_last :
    (got (step (turn .host (pushing 2 1 .thenLatch [])))).map (fun t => (t.host, t.st)) = some (.latchWait, .ready) := by decide

theorem test_shiftWord :
    (got (step (turn .engine (sending 2 1 .idle [0x34125600])))).map (fun t => (t.fifo, t.wire)) =
      some ([], [.word 0x341256 .w24]) := by decide

theorem test_shiftWord_32 :
    (got (step (turn .engine { readyPush 2 .rgbw with fifo := [0x20103040] }))).map (·.wire) =
      some [.word 0x20103040 .w32] := by decide

theorem test_idleGap : (got (step (turn .time (readyChannel 2 .rgb)))).map (·.wire) = some [.latch] := by decide

/-! ### The step, and the host's two entries -/

theorem test_step_runs_the_placed_command :
    (got (step (State.reset.withFetchWord 64 0x0E00000000000000))).map (·.resp) = some 3 := by decide

theorem test_step_begin_after_reset :
    (got (step (State.reset.withFetchWord 64 0x0800000000000000))).map (fun t => (t.st, t.resp)) = some (.ready, 1) := by rfl

theorem test_step_reserved_word :
    (got (step (sends 0x0900000000000001 State.reset))).map (·.fault) = some (some (.illegalCommand 0x0900000000000001)) := by
  decide

/-! ### Frames (95_test_vectors.md 2.5) -/

theorem test_frames :
    frames [.word 1 .w24, .word 2 .w24, .latch, .latch, .word 3 .w24] =
      [⟨[.word 1 .w24, .word 2 .w24], true⟩, ⟨[.word 3 .w24], false⟩] ∧
    (frames [.word 1 .w24, .abort, .latch]).map Frame.clean = [false] := by decide

/-! ### `hsv` (45_colormodel_hsv.md R221, R222) -/

theorem test_hsv_sectors :
    hsv 0 1 1 = ⟨255, 0, 0⟩ ∧ hsv 60 1 1 = ⟨255, 255, 0⟩ ∧ hsv 120 1 1 = ⟨0, 255, 0⟩ ∧ hsv 180 1 1 = ⟨0, 255, 255⟩ ∧
    hsv 240 1 1 = ⟨0, 0, 255⟩ ∧ hsv 300 1 1 = ⟨255, 0, 255⟩ ∧ hsv 30 1 1 = ⟨255, 128, 0⟩ ∧ hsv 359 1 1 = ⟨255, 0, 4⟩ := by
  decide +kernel

theorem test_hsv_wraps_and_clamps :
    hsv (-120) 1 1 = ⟨0, 0, 255⟩ ∧ hsv 810 1 1 = ⟨128, 255, 0⟩ ∧ hsv 45 2 3 = ⟨255, 191, 0⟩ ∧ hsv 45 2 (-1) = ⟨0, 0, 0⟩ ∧
    hsv 0 (1 / 2) 1 = ⟨255, 128, 128⟩ ∧ hsv 210 (3 / 4) (1 / 2) = ⟨32, 80, 128⟩ ∧ hsv (-1 / 2) 1 1 = ⟨255, 0, 2⟩ := by
  decide +kernel

/-! ### Assembler (30_encoding.md R89, R90) -/

theorem test_assembly :
    assembly (.setpixelRgb 2 0x12 0x34 0x56) = "SETPIXEL_RGB 2, 18, 52, 86" ∧ assembly .showasync = "SHOWASYNC" := by decide

theorem test_readLine :
    readLine "SETPIXEL_RGB 2, 0x12, 0x34, 0x56 -> 0".toList = some (.setpixelRgb 2 0x12 0x34 0x56, some 0) ∧
    readLine "BEGIN".toList = some (.beginCmd, none) ∧ readLine "ENABLEGAMMA 2".toList = none := by decide

theorem test_readConstruct :
    readConstruct "CONSTRUCT 2, 3, RGB, 800000, 0, -1".toList = some ⟨2, 3, .rgb, 800000, 0, -1⟩ := by decide

/-! ### Several instances (60_exceptions.md R244) -/

/-- Two instances on one platform with one channel, the first begun. -/
def twoStrips : System :=
  ⟨[readyChannel 1 .rgb, constructed 1 1 4 .rgb], ⟨[.loaded 0], [[true, false, false, false]], [true]⟩,
    [(1, 0x0800000000000000)], [.host], 0, 2⟩

/-- The second instance's BEGIN takes another slot, drawn by the system's count, and, the one channel being held, goes on
without. -/
theorem test_second_instance :
    (match twoStrips.step with
      | .next sy => (sy.insts[1]?).map (fun t => (t.st, t.resp, t.ch, t.slot != some 0, sy.draws))
      | .fault _ => none
      | .refused _ => none) = some (.ready, 1, .unavailable, true, 3) := by
  have h : draw (Config.freeSlot 2) 1 [2, 3] ∈ [1, 2, 3] := by
    unfold draw
    rw [List.getD_eq_getElem _ _ (by simpa using Nat.mod_lt _ (by decide))]
    exact List.getElem_mem _
  have h0 : draw (Config.freeSlot 2) 1 [2, 3] ≠ 0 := by
    intro h'
    simp [h'] at h
  show some (EngineState.ready, (1 : Word32), Channel.unavailable, (some (draw (Config.freeSlot 2) 1 [2, 3]) != some 0), 3) = _
  simp [h0]


/-! ### Witnesses: a state and operands that meet the hypotheses of each statement, clause by clause -/

theorem inv_constructed : StateInv (constructed 3 1 4 .rgb) := inv_of_check _ (by decide) rfl
theorem inv_readyChannel : StateInv (readyChannel 2 .rgb) := inv_of_check _ (by decide) rfl
theorem inv_readyPush : StateInv (readyPush 2 .rgb) := inv_of_check _ (by decide) rfl
theorem inv_sending : StateInv (sending 2 1 .idle [0]) := inv_of_check _ (by decide) rfl
theorem inv_pushing : StateInv (pushing 2 1 .thenLatch []) := inv_of_check _ (by decide) rfl
theorem inv_latchWait : StateInv { readyChannel 2 .rgb with host := .latchWait } := inv_of_check _ (by decide) rfl

/-- Inputs of the model do not enter the invariant. -/
theorem inv_inputs {s : State} (h : StateInv s) (port : List Cmd) (sched : List Agent) :
    StateInv { s with port := port, sched := sched } := by
  obtain ⟨a1, a2, a3, a4, a5, a6, a7, a8, a9, a10, a11, a12, a13⟩ := h
  exact ⟨a1, a2, a3, a4, a5, a6, a7, a8, a9, a10, a11, a12, a13⟩

theorem witness_EncodeAfterDecode : decode 0x0300000212345600 = .ok (.setpixelRgb 2 0x12 0x34 0x56) := by decide

theorem witness_MasksAgreeWithFormats :
    (⟨.setbrightness, 0x06, 0x0600000000000000, 0xFFFFFFFFFFFFFF00⟩ : Row) ∈ opcodeTable ∧
    (Fields.split 0x0600000000000100).op = 0x06 ∧
    (Mnemonic.setbrightness.format.unusedZero (Fields.split 0x0600000000000100)) = false := by decide

theorem witness_ReservedWords :
    (∀ i, decode 0x0F00000000000000 ≠ .ok i) ∧ ∃ row ∈ opcodeTable, row.covers 0x0600000000000080 = true := by
  refine ⟨fun i h => ?_, by decide⟩
  rw [show decode 0x0F00000000000000 = .error (.opcode 0x0F) by decide] at h
  cases h

theorem witness_StepRunsDecodedCommand :
    (sends 0x0E00000000000000 State.reset).cmdReady = true ∧ (sends 0x0E00000000000000 State.reset).nextAgent = .host ∧
    (sends 0x0E00000000000000 State.reset).port = 0x0E00000000000000 :: [] ∧ decode 0x0E00000000000000 = .ok .size := by decide

theorem witness_WordsTakenOnlyWhenReady :
    ∃ t, step (sends 0x0E00000000000000 State.reset) = .next t ∧ t.port ≠ (sends 0x0E00000000000000 State.reset).port :=
  ⟨_, rfl, by decide⟩

theorem witness_FaultsOnlyOnTheirConditions :
    (∃ t, step (sends 0x0F00000000000000 State.reset) = .next t ∧ t.fault = some (.illegalCommand 0x0F00000000000000)) ∧
    (∃ t, step (sends 0x0900000000000000 State.reset) = .next t ∧ t.fault = some (.lifecycleViolation .showCmd)) ∧
    (∃ t, step (sends 0x0800000000000000 (readyPush 2 .rgb)) = .next t ∧ t.fault = some (.lifecycleViolation .beginCmd)) ∧
    (∃ t, step (sends 0x0500000000000000 (sending 2 1 .idle [0])) = .next t ∧ t.fault = some (.misuseHazard .clear)) ∧
    State.reset.fault = none :=
  ⟨⟨_, rfl, rfl⟩, ⟨_, rfl, rfl⟩, ⟨_, rfl, rfl⟩, ⟨_, rfl, rfl⟩, rfl⟩

theorem witness_FaultedStateHasNoSuccessor :
    (State.reset.withFault (.misuseHazard .clear)).fault = some (.misuseHazard .clear) ∧
    ∃ t, step (turn .channel State.reset) = .next t := ⟨rfl, _, rfl⟩

theorem witness_CommandByStateTable :
    (StateInv (constructed 3 1 4 .rgb) ∧ (constructed 3 1 4 .rgb).cmdReady = true ∧ (constructed 3 1 4 .rgb).st = .uninitialized) ∧
    (StateInv (readyChannel 2 .rgb) ∧ (readyChannel 2 .rgb).cmdReady = true ∧ (readyChannel 2 .rgb).st = .ready) ∧
    (StateInv (sending 2 1 .idle [0]) ∧ (sending 2 1 .idle [0]).cmdReady = true ∧ (sending 2 1 .idle [0]).st = .transmitting) :=
  ⟨⟨inv_constructed, rfl, rfl⟩, ⟨inv_readyChannel, rfl, rfl⟩, ⟨inv_sending, rfl, rfl⟩⟩

theorem witness_SetallRgbFillsWithoutWhite :
    (constructed 3 1 4 .rgb).xfer.active = false ∧ (constructed 3 1 4 .rgb).cfg.n = 3 ∧
    (sending 2 1 .idle [0]).xfer.active = true := by decide

theorem witness_SetallRgbwFills :
    (constructed 2 1 4 .rgb).xfer.active = false ∧ (constructed 2 1 4 .rgb).cfg.n = 2 ∧
    (sending 2 1 .idle [0]).xfer.active = true := by decide

/-- The last index in range, the first out of it. -/
theorem witness_SetpixelRgbWritesOne :
    (constructed 3 1 4 .rgb).xfer.active = false ∧ (constructed 3 1 4 .rgb).pb.length = (constructed 3 1 4 .rgb).cfg.n ∧
    (2 : Idx).toNat < (constructed 3 1 4 .rgb).cfg.n ∧ (constructed 3 1 4 .rgb).cfg.n ≤ (3 : Idx).toNat ∧
    (constructed 3 1 4 .rgb).cfg.n = 3 ∧ (sending 2 1 .idle [0]).xfer.active = true := by decide

theorem witness_SetpixelRgbwWritesOne :
    (constructed 1 1 4 .rgb).xfer.active = false ∧ (constructed 1 1 4 .rgb).pb.length = (constructed 1 1 4 .rgb).cfg.n ∧
    (0 : Idx).toNat < (constructed 1 1 4 .rgb).cfg.n ∧ (constructed 1 1 4 .rgb).cfg.n ≤ (1 : Idx).toNat ∧
    (constructed 1 1 4 .rgb).cfg.n = 1 ∧ (constructed 1 1 4 .rgb).pb.length = 1 ∧
    (sending 2 1 .idle [0]).xfer.active = true := by decide

theorem witness_ClearTurnsEverySlotOff :
    (constructed 2 1 4 .rgb).xfer.active = false ∧ (sending 2 1 .idle [0]).xfer.active = true ∧
    (∃ t, exec .clear (constructed 2 1 4 .rgb) = .next t) ∧
    ({ constructed 2 1 4 .rgb with pb := [⟨1, 2, 3, 4⟩, ⟨5, 6, 7, 8⟩] } : State).cfg.n = 2 ∧
    ({ constructed 2 1 4 .rgb with pb := [⟨1, 2, 3, 4⟩, ⟨5, 6, 7, 8⟩] } : State).pb = [⟨1, 2, 3, 4⟩, ⟨5, 6, 7, 8⟩] :=
  ⟨rfl, rfl, ⟨_, rfl⟩, rfl, rfl⟩

/-- The largest pixel count of a legal configuration. -/
theorem witness_SizeRespondsPixelCount :
    Cfg.wf (platform 1 4) (config (2 ^ 24 - 1) .rgb) = true ∧ (constructed 3 1 4 .rgb).cfg.n = 3 := by decide

theorem witness_BufferCommandsFrame :
    (∃ t, exec (.setallRgb 1 2 3) (constructed 3 1 4 .rgb) = .next t) ∧
    (∃ t, exec (.setallRgbw 1 2 3 4) (constructed 3 1 4 .rgb) = .next t) ∧
    (∃ t, exec (.setpixelRgb 2 1 2 3) (constructed 3 1 4 .rgb) = .next t) ∧
    (∃ t, exec (.setpixelRgbw 3 1 2 3 4) (constructed 3 1 4 .rgb) = .next t) ∧
    (∃ t, exec .clear (sending 2 1 .idle [0]) = .next t) ∧ (∃ t, exec .size (constructed 3 1 4 .rgb) = .next t) :=
  ⟨⟨_, rfl⟩, ⟨_, rfl⟩, ⟨_, rfl⟩, ⟨_, rfl⟩, ⟨_, rfl⟩, ⟨_, rfl⟩⟩

theorem witness_SetbrightnessWritesBri :
    (∃ t, exec (.setbrightness 0) (constructed 3 1 4 .rgb) = .next t ∧ t.frameWords ≠ []) ∧
    ∃ t, exec (.setbrightness 255) (constructed 3 1 4 .rgb) = .next t := ⟨⟨_, rfl, by decide⟩, _, rfl⟩

theorem witness_EnablegammaLoadsTheTable :
    StateInv (constructed 3 1 4 .rgb) ∧ (constructed 3 1 4 .rgb).par.gammaCurve = Config.defaultGamma ∧
    ∃ t u, exec (.enablegamma true) (constructed 3 1 4 .rgb) = .next t ∧ exec (.enablegamma false) t = .next u :=
  ⟨inv_constructed, rfl, _, _, rfl, rfl⟩

theorem witness_ScaleProperties : (127 : Byte).toNat ≤ (128 : Byte).toNat := by decide

theorem witness_GammaBeforeBrightness :
    StateInv (constructed 3 1 4 .rgb) ∧ (pipeline 128 true).gen = true ∧ (pipeline 128 true).gt = Config.defaultGamma ∧
    (pipeline 128 true).bri = 128 := ⟨inv_constructed, rfl, rfl, rfl⟩

theorem witness_PipelineCommandsFrame :
    (∃ t, exec (.setbrightness 0) (sending 2 1 .idle [0]) = .next t) ∧
    ∃ t, exec (.enablegamma true) (sending 2 1 .idle [0]) = .next t := ⟨⟨_, rfl⟩, _, rfl⟩

theorem witness_PackingOf24Bits :
    State.reset.bri = 255 ∧ State.reset.gen = false ∧ ((pipeline 64 true).gen = true ∧ (pipeline 64 true).readGT 0 = 0) := by
  decide

theorem witness_PackingOf32Bits :
    State.reset.bri = 255 ∧ State.reset.gen = false ∧ ((pipeline 64 true).gen = true ∧ (pipeline 64 true).readGT 0 = 0) := by
  decide

theorem witness_WhiteUnusedOn24BitStrip :
    (readyPush 2 .rgb).cfg.fmt = .rgb ∧
    [(⟨1, 1, 1, 9⟩ : Pixel), ⟨2, 2, 2, 0⟩].map (fun p => (p.r, p.g, p.b)) = (readyPush 2 .rgb).pb.map (fun p => (p.r, p.g, p.b)) ∧
    (∃ t, exec .showCmd (readyPush 2 .rgb) = .next t) ∧
    (∃ t, step (sends 0x0900000000000000 (readyPush 2 .rgb)) = .next t) ∧
    ({ readyPush 2 .rgb with fault := some (.misuseHazard .clear) } : State).cfg.fmt = .rgb ∧
    step { readyPush 2 .rgb with fault := some (.misuseHazard .clear) } = .fault (.misuseHazard .clear) :=
  ⟨rfl, by decide, ⟨_, rfl⟩, ⟨_, rfl⟩, rfl, rfl⟩

/-- Auto-claim with a channel free, and a requested slot of a platform without channels. -/
theorem witness_BeginSucceeds :
    ((constructed 3 1 4 .rgb).par.wf = true ∧ (constructed 3 1 4 .rgb).cfg.wf (constructed 3 1 4 .rgb).par = true ∧
      (constructed 3 1 4 .rgb).plat.wf (constructed 3 1 4 .rgb).par = true ∧ (constructed 3 1 4 .rgb).st = .uninitialized ∧
      (constructed 3 1 4 .rgb).plat.freeChans (constructed 3 1 4 .rgb).par ≠ [] ∧ (constructed 3 1 4 .rgb).cfg.slotReq = -1) ∧
    BeginCanSucceed (constructed 3 1 4 .rgb) ∧ Cfg.wf (platform 0 4) ⟨2, 3, .rgb, 800000, 0, 3⟩ = true ∧
    (constructed 3 0 4 .rgb).plat.freeChans (constructed 3 0 4 .rgb).par = [] :=
  ⟨by decide, ⟨.inr rfl, .inr (by decide)⟩, by decide, by decide⟩

/-- A platform on which the program does not fit; and program P6 of 95_test_vectors.md, its one slot claimed by another. -/
theorem witness_BeginFailsInTwoCases :
    (let s := { constructed 1 1 4 .rgb with par := ({ platform 1 4 with progFits := [false] } : Params) };
      s.st = .uninitialized ∧ s.plat.program s.cfg.block = .notLoaded ∧ s.par.progFits.getD s.cfg.block false = false ∧
        ∃ t, exec .beginCmd s = .next t ∧ t.resp = 0) ∧
    (let s := { constructed 1 1 4 .rgb with
                par := ({ platform 1 4 with nslots := 1 } : Params), plat := ⟨[.notLoaded], [[true]], [false]⟩ };
      s.par.wf = true ∧ s.cfg.wf s.par = true ∧ s.plat.wf s.par = true ∧ s.st = .uninitialized ∧
        s.par.progFits.getD s.cfg.block false = true ∧ s.cfg.slotReq = -1 ∧ s.plat.freeSlots s.par s.cfg.block = [] ∧
        ∃ t, exec .beginCmd s = .next t ∧ t.resp = 0) :=
  ⟨⟨rfl, rfl, rfl, _, rfl, rfl⟩, by decide, by decide, by decide, rfl, rfl, rfl, by decide, _, rfl, rfl⟩

theorem witness_ProgramNeverUnloaded :
    (readyPush 2 .rgb).plat.program 0 = .loaded 0 ∧ ∃ t, step (sends 0x0D00000000000000 (readyPush 2 .rgb)) = .next t :=
  ⟨rfl, _, rfl⟩

theorem witness_ShowStartsFrame :
    ((readyChannel 2 .rgb).st ≠ .uninitialized ∧ (readyChannel 2 .rgb).xfer.active = false ∧
      (readyChannel 2 .rgb).ch = .available 0) ∧
    (readyPush 2 .rgb).st ≠ .uninitialized ∧ (readyPush 2 .rgb).xfer.active = false ∧ (readyPush 2 .rgb).ch = .unavailable := by
  decide

theorem witness_ShowasyncStartsFrame :
    ((readyChannel 2 .rgbw).st ≠ .uninitialized ∧ (readyChannel 2 .rgbw).xfer.active = false ∧
      (readyChannel 2 .rgbw).ch = .available 0) ∧
    (readyPush 2 .rgbw).st ≠ .uninitialized ∧ (readyPush 2 .rgbw).xfer.active = false ∧
    (readyPush 2 .rgbw).ch = .unavailable := by
  decide

theorem witness_BusyReportsTheChannel :
    (sending 2 1 .idle [0]).ch = .available 0 ∧ (readyPush 2 .rgb).ch = .unavailable ∧
    StateInv (constructed 3 1 4 .rgb) ∧ (constructed 3 1 4 .rgb).st = .uninitialized := ⟨rfl, rfl, inv_constructed, rfl⟩

theorem witness_WaitHoldsTheHost :
    (constructed 3 1 4 .rgb).st = .uninitialized ∧ (readyPush 2 .rgb).st ≠ .uninitialized := by decide

/-- In transfer with words queued; words queued only; neither. -/
theorem witness_EndReleasesResources :
    (constructed 3 1 4 .rgb).st = .uninitialized ∧
    ((sending 2 1 .idle [0]).st ≠ .uninitialized ∧ (sending 2 1 .idle [0]).xfer.active = true ∧
      (sending 2 1 .idle [0]).ch = .available 0 ∧ (sending 2 1 .idle [0]).slot = some 0) ∧
    (({ readyPush 2 .rgb with fifo := [0] } : State).st ≠ .uninitialized ∧ ({ readyPush 2 .rgb with fifo := [0] } : State).fifo ≠ []) ∧
    (readyPush 2 .rgb).st ≠ .uninitialized ∧ (readyPush 2 .rgb).xfer.active = false ∧ (readyPush 2 .rgb).fifo = [] := by decide

theorem witness_EngineCommandsFrame :
    (∃ t, exec .beginCmd (constructed 3 1 4 .rgb) = .next t) ∧ (∃ t, exec .showCmd (readyPush 2 .rgb) = .next t) ∧
    (∃ t, exec .showasync (readyPush 2 .rgb) = .next t) ∧ (∃ t, exec .busy (readyPush 2 .rgb) = .next t) ∧
    (∃ t, exec .wait (readyPush 2 .rgb) = .next t) ∧ ∃ t, exec .endCmd (readyPush 2 .rgb) = .next t :=
  ⟨⟨_, rfl⟩, ⟨_, rfl⟩, ⟨_, rfl⟩, ⟨_, rfl⟩, ⟨_, rfl⟩, _, rfl⟩

/-- Room for one more word and a word left after it; the last word; a full queue; no transfer. -/
theorem witness_XferMoveStep :
    (let s := turn .channel (sending 3 1 .idle [0, 0, 0]);
      s.fault = none ∧ s.nextAgent = .channel ∧ s.xfer.active = true ∧ s.fifo.length + 1 = s.par.fifoDepth ∧
        s.readSB s.xfer.rptr.toNat = some 0x34125600 ∧ s.xfer.rem - 1 ≠ 0) ∧
    (let s := turn .channel (sending 3 2 .idle [0]);
      s.fault = none ∧ s.nextAgent = .channel ∧ s.xfer.active = true ∧ s.fifo.length < s.par.fifoDepth ∧
        s.readSB s.xfer.rptr.toNat = some 0x34125600 ∧ s.xfer.rem - 1 = 0) ∧
    (let s := turn .channel (sending 3 1 .idle [0, 0, 0, 0]);
      s.fault = none ∧ s.nextAgent = .channel ∧ s.par.fifoDepth ≤ s.fifo.length) ∧
    (let s := turn .channel (readyChannel 3 .rgb);
      s.fault = none ∧ s.nextAgent = .channel ∧ s.xfer.active = false) := by decide

theorem witness_WaitXferDoneStep :
    (let s := turn .host { readyPush 2 .rgb with host := .waitXfer };
      s.fault = none ∧ s.nextAgent = .host ∧ s.host = .waitXfer ∧ s.ch = .unavailable) ∧
    (let s := turn .host { readyChannel 2 .rgb with host := .waitXfer };
      s.fault = none ∧ s.nextAgent = .host ∧ s.host = .waitXfer ∧ s.xfer.active = false) ∧
    (let s := turn .host (sending 2 0 .waitXfer []);
      s.fault = none ∧ s.nextAgent = .host ∧ s.host = .waitXfer ∧ s.ch ≠ .unavailable ∧ s.xfer.active = true) := by decide

theorem witness_PushWordStep :
    (let s := turn .host (pushing 3 1 .thenLatch [0, 0, 0]);
      s.fault = none ∧ s.nextAgent = .host ∧ s.host = .pushing 1 .thenLatch ∧ s.fifo.length + 1 = s.par.fifoDepth ∧
        s.readSB (1 : Idx).toNat = some 0x34125600 ∧ (1 : Idx).toNat + 1 < s.cfg.n) ∧
    (let s := turn .host (pushing 3 2 .thenLatch []);
      s.host = .pushing 2 .thenLatch ∧ s.fifo.length < s.par.fifoDepth ∧ s.readSB (2 : Idx).toNat = some 0x34125600 ∧
        s.cfg.n ≤ (2 : Idx).toNat + 1) ∧
    (let s := turn .host (pushing 3 2 .thenReturn []);
      s.host = .pushing 2 .thenReturn ∧ s.fifo.length < s.par.fifoDepth ∧ s.readSB (2 : Idx).toNat = some 0x34125600 ∧
        s.cfg.n ≤ (2 : Idx).toNat + 1) ∧
    (let s := turn .host (pushing 3 1 .thenLatch [0, 0, 0, 0]);
      s.host = .pushing 1 .thenLatch ∧ s.par.fifoDepth ≤ s.fifo.length) := by decide

theorem witness_LatchDoneStep :
    (let s := turn .host { readyPush 2 .rgb with host := .latchWait };
      s.fault = none ∧ s.nextAgent = .host ∧ s.host = .latchWait ∧ s.fifo = []) ∧
    (let s := turn .host { readyPush 2 .rgb with host := .latchWait, fifo := [0] };
      s.fault = none ∧ s.nextAgent = .host ∧ s.host = .latchWait ∧ s.fifo ≠ []) := by decide

theorem witness_ShiftWordStep :
    (let s := turn .engine { readyPush 2 .rgb with fifo := [0x34125600] };
      s.fault = none ∧ s.nextAgent = .engine ∧ s.slot = some 0 ∧ s.fifo = 0x34125600 :: [] ∧ s.te.width = .w24) ∧
    (let s := turn .engine { readyPush 2 .rgbw with fifo := [0x20103040] };
      s.slot = some 0 ∧ s.fifo = 0x20103040 :: [] ∧ s.te.width = .w32) ∧
    (turn .engine (constructed 3 1 4 .rgb)).slot = none ∧ (turn .engine (readyPush 2 .rgb)).fifo = [] := by decide

theorem witness_IdleGapStep :
    (let s := turn .time (readyChannel 2 .rgb);
      s.fault = none ∧ s.nextAgent = .time ∧ s.slot ≠ none ∧ s.host = .idle ∧ s.xfer.active = false ∧ s.fifo = []) ∧
    (turn .time (constructed 3 1 4 .rgb)).slot = none ∧ (turn .time (pushing 2 1 .thenLatch [])).host ≠ .idle ∧
    (turn .time (sending 2 0 .idle [])).xfer.active = true ∧
    ({ turn .time (readyPush 2 .rgb) with fifo := [0] } : State).fifo ≠ [] := by decide

theorem witness_QueueGrowsOnlyOnDataRequest :
    StateInv (turn .channel (sending 2 1 .idle [0])) ∧
    ∃ t, step (turn .channel (sending 2 1 .idle [0])) = .next t ∧ (turn .channel (sending 2 1 .idle [0])).fifo.length < t.fifo.length :=
  ⟨inv_inputs inv_sending _ _, _, rfl, by decide⟩

theorem witness_WireLogOnlyRecords :
    ∃ t, step (turn .engine (sending 2 1 .idle [0])) = .next t ∧ t.wire ≠ (sending 2 1 .idle [0]).wire := ⟨_, rfl, by decide⟩

theorem witness_ConfigurationNeverChanges : ∃ t, step (sends 0x0800000000000000 State.reset) = .next t := ⟨_, rfl⟩

theorem witness_EngineStateTransitions :
    (StateInv (sends 0x0800000000000000 (constructed 3 1 4 .rgb)) ∧
      ∃ t, step (sends 0x0800000000000000 (constructed 3 1 4 .rgb)) = .next t ∧ t.st = .ready) ∧
    (StateInv (sends 0x0900000000000000 (readyPush 2 .rgb)) ∧
      ∃ t, step (sends 0x0900000000000000 (readyPush 2 .rgb)) = .next t ∧ t.st = .transmitting) ∧
    (StateInv (turn .channel (sending 2 1 .idle [0])) ∧
      ∃ t, step (turn .channel (sending 2 1 .idle [0])) = .next t ∧ t.st = .ready) ∧
    (StateInv (turn .host (pushing 2 1 .thenLatch [])) ∧
      ∃ t, step (turn .host (pushing 2 1 .thenLatch [])) = .next t ∧ t.st = .ready) ∧
    (StateInv (sends 0x0D00000000000000 (sending 2 1 .idle [0])) ∧
      ∃ t, step (sends 0x0D00000000000000 (sending 2 1 .idle [0])) = .next t ∧ t.st = .uninitialized) :=
  ⟨⟨inv_inputs inv_constructed _ _, _, rfl, rfl⟩, ⟨inv_inputs inv_readyPush _ _, _, rfl, rfl⟩,
    ⟨inv_inputs inv_sending _ _, _, rfl, rfl⟩, ⟨inv_inputs inv_pushing _ _, _, rfl, rfl⟩,
    ⟨inv_inputs inv_sending _ _, _, rfl, rfl⟩⟩

theorem witness_BusyFalseAfterWait :
    (StateInv (turn .host { readyChannel 2 .rgb with host := .latchWait }) ∧
      ∃ t, step (turn .host { readyChannel 2 .rgb with host := .latchWait }) = .next t ∧ t.host = .idle) ∧
    (∃ t, exec .endCmd (sending 2 1 .idle [0]) = .next t) ∧ (sending 2 1 .idle [0]).st ≠ .uninitialized ∧
    (StateInv (sends 0x0A00000000000000 (readyChannel 2 .rgb)) ∧ (readyChannel 2 .rgb).xfer.active = false ∧
      ∃ t, step (sends 0x0A00000000000000 (readyChannel 2 .rgb)) = .next t ∧ t.xfer.active = true) :=
  ⟨⟨inv_inputs inv_latchWait _ _, _, rfl, rfl⟩, ⟨_, rfl⟩, by decide, inv_inputs inv_readyChannel _ _, rfl, _, rfl, rfl⟩

theorem witness_ConstructionGivesResetValues :
    (State.construct (config 3 .rgb) (platform 1 4) (Plat.unused (platform 1 4)) threePixels [7, 8, 9] ⟨1, 2, .w32⟩).isSome = true ∧
    (config 0 .rgb).n = 0 ∧ 2 ^ 24 ≤ (config (2 ^ 24) .rgb).n ∧ (platform 1 4).nblocks ≤ 1 := by decide

theorem witness_ConstructionMeetsInvariant :
    ∃ s, State.construct (config 3 .rgb) (platform 1 4) (Plat.unused (platform 1 4)) threePixels [7, 8, 9] ⟨1, 2, .w32⟩ = some s :=
  ⟨_, rfl⟩

theorem witness_StepKeepsInvariant :
    StateInv (sends 0x0800000000000000 (constructed 3 1 4 .rgb)) ∧
    ∃ t, step (sends 0x0800000000000000 (constructed 3 1 4 .rgb)) = .next t := ⟨inv_inputs inv_constructed _ _, _, rfl⟩

/-- Whether every state after `j` steps of a run, `from_ <= j < to_`, meets `p`. -/
def runCheck (s : State) (p : State → Bool) (from_ to_ : Nat) : Bool :=
  (List.range to_).all (fun j => decide (j < from_) ||
    match Host.Core.run Sys2Proof.core j s with
    | .next u => p u
    | .fault _ => true
    | .refused _ => true)

theorem of_runCheck (s : State) (p : State → Bool) (from_ to_ : Nat) (h : runCheck s p from_ to_ = true) (j : Nat) (u : State)
    (h1 : from_ ≤ j) (h2 : j < to_) (hu : After j s u) : p u = true := by
  have := List.all_eq_true.1 h j (List.mem_range.2 h2)
  have hr : Host.Core.run Sys2Proof.core j s = .next u := hu
  rw [hr] at this
  simpa [Nat.not_lt.2 h1] using this

/-- SHOW of a strip of one LED with a channel, its steps in one order. -/
def showRun : State :=
  { readyChannel 1 .rgb with
    port := [0x0900000000000000], sched := [.host, .channel, .host, .engine, .host] }

theorem witness_ShowGuarantee :
    StateInv showRun ∧ showRun.st = .ready ∧ showRun.fifo = [] ∧ showRun.cmdReady = true ∧ showRun.nextAgent = .host ∧
    showRun.port = 0x0900000000000000 :: [] ∧ decode 0x0900000000000000 = .ok .showCmd ∧ LogClosed showRun.wire ∧
    ∃ t, After 5 showRun t ∧ t.host = .idle ∧ ∀ j u, 0 < j → j < 5 → After j showRun u → u.host ≠ .idle := by
  refine ⟨inv_of_check _ (by decide) rfl, rfl, rfl, rfl, rfl, rfl, by decide, .inl rfl, _, rfl, rfl, fun j u h1 h2 hu => ?_⟩
  simpa using of_runCheck showRun (fun u => u.host != .idle) 1 5 (by decide) j u h1 h2 hu

/-- A held host and five fair rounds, for one word and an empty queue. -/
theorem witness_HeldCommandCompletes :
    (let s := { pushing 1 0 .thenLatch [] with sched := (List.replicate 5 [Agent.host, .channel, .engine]).flatten ++ [.time] };
      StateInv s ∧ s.fault = none ∧ s.host ≠ .idle ∧ (∀ r ∈ List.replicate 5 [Agent.host, .channel, .engine], Round r) ∧
        s.sched = (List.replicate 5 [Agent.host, .channel, .engine]).flatten ++ [.time] ∧
        2 * s.cfg.n + s.fifo.length + 3 ≤ (List.replicate 5 [Agent.host, .channel, .engine]).length) := by
  refine ⟨inv_of_check _ (by decide) rfl, rfl, by decide, fun r hr => ?_, rfl, by decide⟩
  rw [List.eq_of_mem_replicate hr]
  exact ⟨by decide, by decide, by decide⟩

/-- SHOWASYNC, BUSY and WAIT of a strip of one LED with a channel, with a gap before WAIT. -/
def asyncRun : State :=
  { readyChannel 1 .rgb with
    port := [0x0A00000000000000, 0x0B00000000000000, 0x0C00000000000000],
    sched := [.host, .channel, .engine, .time, .host, .host, .host, .host] }

theorem witness_ShowasyncThenWaitGuarantee :
    StateInv asyncRun ∧ asyncRun.st = .ready ∧ asyncRun.fifo = [] ∧ asyncRun.cmdReady = true ∧ asyncRun.nextAgent = .host ∧
    asyncRun.port = 0x0A00000000000000 :: [0x0B00000000000000] ++ 0x0C00000000000000 :: [] ∧
    decode 0x0A00000000000000 = .ok .showasync ∧ decode 0x0C00000000000000 = .ok .wait ∧ decode 0x0B00000000000000 = .ok .busy ∧
    ∃ t, After 8 asyncRun t ∧ t.port = [] ∧ t.host = .idle ∧
      ∀ j u, j < 8 → After j asyncRun u → u.port = [] → u.host ≠ .idle := by
  refine ⟨inv_of_check _ (by decide) rfl, rfl, rfl, rfl, rfl, rfl, by decide, by decide, by decide, _, rfl, rfl, rfl,
    fun j u h2 hu hp => ?_⟩
  have := of_runCheck asyncRun (fun u => u.port != [] || u.host != .idle) 0 8 (by decide) j u (Nat.zero_le _) h2 hu
  simpa [hp] using this

theorem witness_FramesCutAtLatch :
    LogClosed [.word 1 .w24, .latch] ∧ [Event.word 2 .w24, .abort] ≠ [] ∧ Event.latch ∉ [Event.word 2 .w24, .abort] :=
  ⟨.inr ⟨[.word 1 .w24], rfl⟩, by decide, by decide⟩

theorem witness_DrawsAreNotObservable :
    StateInv (turn .channel (sending 2 1 .idle [0])) ∧ (turn .channel (sending 2 1 .idle [0])).slot = some 0 ∧
    ∃ t, step (turn .channel (sending 2 1 .idle [0])) = .next t := ⟨inv_inputs inv_sending _ _, rfl, _, rfl⟩

theorem witness_HeldResourcesStayDistinct :
    Fits twoStrips ∧ HeldOnce twoStrips ∧ ∃ sz, twoStrips.step = .next sz := by
  have lookup : ∀ (j : Nat) (s : State), twoStrips.insts[j]? = some s →
      (j = 0 ∧ s = readyChannel 1 .rgb) ∨ (j = 1 ∧ s = constructed 1 1 4 .rgb) := by
    intro j s h
    match j, h with
    | 0, h => exact .inl ⟨rfl, (Option.some.inj h).symm⟩
    | 1, h => exact .inr ⟨rfl, (Option.some.inj h).symm⟩
    | j + 2, h => simp [twoStrips] at h
  refine ⟨fun j s h => ?_, ⟨fun j s c h hc => ?_, fun i j s t c hi hj hs ht => ?_, fun j s k h hk => ?_,
    fun i j s t k hi hj hs ht _ => ?_⟩, _, rfl⟩
  · rcases lookup j s h with ⟨-, rfl⟩ | ⟨-, rfl⟩ <;> decide
  · rcases lookup j s h with ⟨-, rfl⟩ | ⟨-, rfl⟩ <;> cases hc
    decide
  · rcases lookup i s hi with ⟨rfl, rfl⟩ | ⟨-, rfl⟩ <;> cases hs
    rcases lookup j t hj with ⟨rfl, rfl⟩ | ⟨-, rfl⟩ <;> cases ht
    rfl
  · rcases lookup j s h with ⟨-, rfl⟩ | ⟨-, rfl⟩ <;> cases hk
    decide
  · rcases lookup i s hi with ⟨rfl, rfl⟩ | ⟨-, rfl⟩ <;> cases hs
    rcases lookup j t hj with ⟨rfl, rfl⟩ | ⟨-, rfl⟩ <;> cases ht
    rfl

theorem witness_HsvWrapsAndClamps : (1 : Rat) ≤ 1 ∧ (0 : Rat) ≤ 0 ∧ (1 : Rat) ≤ 3 ∧ (-1 : Rat) ≤ 0 := by norm_num

end Sys2Proof.Tests
end

section
/-! SUPPORT. Construction (10_state.md R43, 70_reset_and_hazards.md R260): what a constructed state is, which configurations are
legal, and the obligation about both. -/

namespace Sys2Proof.Machine

/-- R25: the identity table reads back its index. -/
@[simp] theorem identityGamma_getElem (i : Nat) (h : i < 256) : identityGamma[i] = BitVec.ofNat 8 i :=
  Vector.getElem_ofFn h

theorem readGT_of_identityGamma (s : State) (v : Byte) (h : s.gt = identityGamma) : s.readGT v = v := by
  simp [State.readGT, h]

/-- R21 as arithmetic. -/
theorem cfg_wf_iff (p : Params) (c : Cfg) :
    c.wf p = true ↔ 1 ≤ c.n ∧ c.n ≤ 2 ^ 24 - 1 ∧ 1 ≤ c.rateHz ∧ c.block < p.nblocks ∧ -1 ≤ c.slotReq ∧
      c.slotReq < p.nslots := by
  simp [Cfg.wf, and_assoc]

theorem legalConstruction_iff (cfg : Cfg) (par : Params) (plat : Plat) (pb : List Pixel) (sb : List Word32) :
    legalConstruction cfg par plat pb sb = true ↔
      par.wf = true ∧ cfg.wf par = true ∧ plat.wf par = true ∧ pb.length = cfg.n ∧ sb.length = cfg.n := by
  simp [legalConstruction, and_assoc]

theorem construct_eq_some_iff (cfg : Cfg) (par : Params) (plat : Plat) (pb : List Pixel) (sb : List Word32)
    (te : TimingEngine) (s : State) :
    State.construct cfg par plat pb sb te = some s ↔
      legalConstruction cfg par plat pb sb = true ∧ State.constructed cfg par plat pb sb te = s := by
  simp [State.construct]

/-- What is constructed has a legal configuration (U13). -/
theorem cfg_wf_of_construct {cfg : Cfg} {par : Params} {plat : Plat} {pb : List Pixel} {sb : List Word32}
    {te : TimingEngine} {s : State} (h : State.construct cfg par plat pb sb te = some s) : cfg.wf par = true := by
  obtain ⟨legal, -⟩ := (construct_eq_some_iff ..).1 h
  obtain ⟨-, hcfg, -⟩ := (legalConstruction_iff ..).1 legal
  exact hcfg

/-- Settles O48: a state that is constructed is `State.constructed`, whose fields are R43's and whose gamma table is the
identity; and each of the listed configurations violates a bound of R21. -/
theorem constructionGivesResetValues : Obligations.ConstructionGivesResetValues := by
  unfold Obligations.ConstructionGivesResetValues
  constructor
  · intro cfg par plat pb sb te s h
    obtain ⟨-, rfl⟩ := (construct_eq_some_iff ..).1 h
    exact ⟨rfl, rfl, rfl, fun v => readGT_of_identityGamma _ v rfl, rfl, rfl, rfl, rfl, rfl, rfl, rfl, rfl, rfl, rfl, rfl, rfl,
      rfl, rfl, rfl, rfl⟩
  · intro cfg par plat pb sb te illegal
    refine Option.eq_none_iff_forall_ne_some.2 fun s h => ?_
    obtain ⟨hn, hn', hrate, hblock, hslot, hslot'⟩ := (cfg_wf_iff ..).1 (cfg_wf_of_construct h)
    omega

end Sys2Proof.Machine
end

section
/-! SUPPORT. The opcode map by fields (30_encoding.md R82, R85, R86): a row covers the words with its opcode whose unused fields
are zero. From it the words that are reserved, what accepting one does, and the obligations about the encoding. -/

namespace Sys2Proof

/-- The bits of a word that R82 fixes for a format, field by field: the whole opcode, and the fields the format does not use. -/
def Format.fixed : Format → Fields
  | .N => ⟨.allOnes 8, .allOnes 24, .allOnes 8, .allOnes 8, .allOnes 8, .allOnes 8⟩
  | .C3 => ⟨.allOnes 8, .allOnes 24, 0, 0, 0, .allOnes 8⟩
  | .C4 => ⟨.allOnes 8, .allOnes 24, 0, 0, 0, 0⟩
  | .P3 => ⟨.allOnes 8, 0, 0, 0, 0, .allOnes 8⟩
  | .P4 => ⟨.allOnes 8, 0, 0, 0, 0, 0⟩
  | .B => ⟨.allOnes 8, .allOnes 24, .allOnes 8, .allOnes 8, .allOnes 8, 0⟩
  | .F => ⟨.allOnes 8, .allOnes 24, .allOnes 8, .allOnes 8, .allOnes 8, 0xFE⟩

theorem mask_eq_fixed : ∀ row ∈ opcodeTable, row.mask = row.mnemonic.format.fixed.join := by decide

theorem pattern_eq_op : ∀ row ∈ opcodeTable, row.pattern = (⟨row.op, 0, 0, 0, 0, 0⟩ : Fields).join := by decide

/-- The mask `0xFE` of format F drops the bit of `ON` and no other. -/
theorem and_FE_eq_zero_iff (w : Byte) : w &&& 0xFE#8 = 0#8 ↔ w.extractLsb' 1 7 = 0#7 := by
  revert w
  decide

/-- The fixed bits are those of the opcode when they hold the opcode and the unused fields are zero. -/
theorem fixed_and_eq_iff (f : Format) (x : Fields) (op : Byte) :
    (⟨x.op &&& f.fixed.op, x.idx &&& f.fixed.idx, x.r &&& f.fixed.r, x.g &&& f.fixed.g, x.b &&& f.fixed.b,
        x.w &&& f.fixed.w⟩ : Fields) = ⟨op, 0, 0, 0, 0, 0⟩ ↔
      x.op = op ∧ f.unusedZero x = true := by
  cases f <;> simp [Format.fixed, Format.unusedZero, and_FE_eq_zero_iff, and_assoc, -BitVec.reduceAllOnes]

/-- R82 and R85 agree: match and mask of a row accept its opcode with the unused fields zero. -/
theorem covers_iff {row : Row} (hrow : row ∈ opcodeTable) (cw : Cmd) :
    row.covers cw = true ↔
      (Fields.split cw).op = row.op ∧ row.mnemonic.format.unusedZero (Fields.split cw) = true := by
  calc row.covers cw = true
    _ ↔ (Fields.split cw).join &&& row.mask = row.pattern := by simp [Row.covers]
    _ ↔ _ := by rw [mask_eq_fixed row hrow, pattern_eq_op row hrow, join_and, join_inj, fixed_and_eq_iff]

/-- The rows' opcodes are 0x01 to 0x0E (R85). -/
theorem exists_row_op_iff (op : Byte) : (∃ row ∈ opcodeTable, row.op = op) ↔ op ≠ 0 ∧ op.toNat < 0x0F := by
  revert op
  decide

theorem row_eq_of_op_eq {a b : Row} (ha : a ∈ opcodeTable) (hb : b ∈ opcodeTable) (h : a.op = b.op) : a = b :=
  Option.some.inj (((find_row b.op a).2 ⟨ha, h⟩).symm.trans ((find_row b.op b).2 ⟨hb, rfl⟩))

/-- No word is covered by two rows (R86). -/
theorem row_eq_of_covers {a b : Row} {cw : Cmd} (ha : a ∈ opcodeTable) (hb : b ∈ opcodeTable) (hca : a.covers cw = true)
    (hcb : b.covers cw = true) : a = b :=
  row_eq_of_op_eq ha hb (((covers_iff ha cw).1 hca).1.symm.trans ((covers_iff hb cw).1 hcb).1)

/-- A word is legal exactly when a row covers it. -/
theorem exists_decode_iff_covers (cw : Cmd) :
    (∃ i, decode cw = .ok i) ↔ ∃ row ∈ opcodeTable, row.covers cw = true := by
  simp only [decode_ok]
  constructor
  · rintro ⟨-, row, hrow, -, hc, -⟩
    exact ⟨row, hrow, hc⟩
  · rintro ⟨row, hrow, hc⟩
    exact ⟨_, row, hrow, ((covers_iff hrow cw).1 hc).1.symm, hc, rfl⟩

theorem reserved_iff_not_covers (cw : Cmd) :
    (∀ i, decode cw ≠ .ok i) ↔ ∀ row ∈ opcodeTable, row.covers cw = false := by
  simpa using not_congr (exists_decode_iff_covers cw)

/-- R86's list of the reserved words: an opcode without a row, or a row whose unused fields are not all zero. -/
theorem reserved_iff_fields (cw : Cmd) :
    (∀ i, decode cw ≠ .ok i) ↔
      ((Fields.split cw).op = 0 ∨ 0x0F ≤ (Fields.split cw).op.toNat ∨
        ∃ row ∈ opcodeTable, row.op = (Fields.split cw).op ∧
          row.mnemonic.format.unusedZero (Fields.split cw) = false) := by
  rw [reserved_iff_not_covers]
  have hop := exists_row_op_iff (Fields.split cw).op
  constructor
  · intro uncovered
    by_cases hrow : ∃ row ∈ opcodeTable, row.op = (Fields.split cw).op
    · obtain ⟨row, hrow, ho⟩ := hrow
      refine .inr (.inr ⟨row, hrow, ho, Bool.eq_false_iff.2 fun hz => ?_⟩)
      exact Bool.eq_false_iff.1 (uncovered row hrow) ((covers_iff hrow cw).2 ⟨ho.symm, hz⟩)
    · by_cases h0 : (Fields.split cw).op = 0
      · exact .inl h0
      · exact .inr (.inl (Nat.le_of_not_lt fun hlt => hrow (hop.2 ⟨h0, hlt⟩)))
  · intro listed row hrow
    refine Bool.eq_false_iff.2 fun hc => ?_
    obtain ⟨ho, hz⟩ := (covers_iff hrow cw).1 hc
    obtain ⟨hne, hlt⟩ := hop.1 ⟨row, hrow, ho.symm⟩
    rcases listed with h0 | hge | ⟨row', hrow', ho', hz'⟩
    · exact hne h0
    · omega
    · rw [row_eq_of_op_eq hrow' hrow (ho'.trans ho), hz] at hz'
      cases hz'

/-- R232, with R86: the word is recorded and nothing else changes. -/
theorem Machine.accept_of_reserved {cw : Cmd} (h : ∀ i, decode cw ≠ .ok i) (s : Machine.State) :
    Machine.accept cw s = .next { s with fault := some (.illegalCommand cw) } := by
  unfold Machine.accept
  split
  · next i hi => exact absurd hi (h i)
  · rfl

/-- Settles O5: a row covers a word exactly when the word has its opcode and zero unused fields (`covers_iff`), and the rows'
opcodes are 0x01 to 0x0E and differ. -/
theorem reservedWords : Obligations.ReservedWords := by
  unfold Obligations.ReservedWords
  exact ⟨reserved_iff_not_covers, reserved_iff_fields, by decide,
    fun _ _ ha _ hb hca hcb => row_eq_of_covers ha hb hca hcb, fun _ s h => Machine.accept_of_reserved h s⟩

/-- Settles O1: each word of R91 is evaluated. -/
theorem workedEncodings : Obligations.WorkedEncodings := by
  unfold Obligations.WorkedEncodings
  decide

end Sys2Proof
end

section
/-! SUPPORT. The command word a host builds from its fields (30_encoding.md R81, R87): what it decodes to, and what accepting a
legal word does. -/

namespace Sys2Proof

/-- A word with a mnemonic's opcode whose unused fields are zero decodes to the mnemonic with the word's operands. -/
theorem decode_join (m : Mnemonic) (x : Fields) (hop : x.op = m.opcode) (hz : m.format.unusedZero x = true) :
    decode x.join = .ok (m.operands x) := by
  obtain ⟨row, hrow, rfl, ho⟩ := row_of_mnemonic m
  have hop' : row.op = x.op := ho.trans hop.symm
  have hc : row.covers x.join = true := (covers_iff hrow _).2 (by simpa using ⟨hop'.symm, hz⟩)
  exact (decode_ok _ _).2 ⟨row, hrow, by simpa using hop', hc, by rw [split_join]⟩

theorem Machine.accept_of_decode {cw : Cmd} {i : Instr} (h : decode cw = .ok i) (s : Machine.State) :
    Machine.accept cw s = Machine.exec i s := by
  simp only [Machine.accept, h]

end Sys2Proof
end

section
/-! SUPPORT. The pixel-buffer commands (40_buffer_ops.md R100 to R107): what each answers with and without a transfer in flight,
what they all leave alone, and the obligations about them. -/

namespace Sys2Proof.Machine

/-! ### The five painting commands: one fault check, then a fill or one pixel -/

theorem exec_setallRgb (r g b : Byte) (s : State) :
    exec (.setallRgb r g b) s = whileNoTransfer .setallRgb (fun s => complete 0 (s.fillPB ⟨r, g, b, 0⟩)) s := rfl

theorem exec_setallRgbw (r g b w : Byte) (s : State) :
    exec (.setallRgbw r g b w) s = whileNoTransfer .setallRgbw (fun s => complete 0 (s.fillPB ⟨r, g, b, w⟩)) s := rfl

theorem exec_setpixelRgb (index : Idx) (r g b : Byte) (s : State) :
    exec (.setpixelRgb index r g b) s =
      whileNoTransfer .setpixelRgb (fun s => complete 0 (s.paintPixel (zextIndex index) ⟨r, g, b, 0⟩)) s := rfl

theorem exec_setpixelRgbw (index : Idx) (r g b w : Byte) (s : State) :
    exec (.setpixelRgbw index r g b w) s =
      whileNoTransfer .setpixelRgbw (fun s => complete 0 (s.paintPixel (zextIndex index) ⟨r, g, b, w⟩)) s := rfl

theorem exec_clear (s : State) :
    exec .clear s = whileNoTransfer .clear (fun s => complete 0 (s.fillPB ⟨0, 0, 0, 0⟩)) s := rfl

/-- R106: with a transfer in flight the fault is recorded and nothing else changes, whatever the command would have written. -/
theorem whileNoTransfer_of_active {s : State} (h : s.xfer.active = true) (op : Mnemonic) (k : State → Result) :
    whileNoTransfer op k s = .next { s with fault := some (.misuseHazard op) } := by
  rw [whileNoTransfer_eq, if_pos h]
  rfl

theorem whileNoTransfer_of_inactive {s : State} (h : s.xfer.active = false) (op : Mnemonic) (k : State → Result) :
    whileNoTransfer op k s = k s := by
  simp [whileNoTransfer_eq, h]

/-- A fill writes every element; what it answers does not depend on which command it is. -/
theorem fill_of_inactive {s : State} (h : s.xfer.active = false) (op : Mnemonic) (p : Pixel) :
    whileNoTransfer op (fun s => complete 0 (s.fillPB p)) s =
      .next { s with pb := List.replicate s.cfg.n p, resp := 0, host := .idle } := by
  rw [whileNoTransfer_of_inactive h]
  rfl

/-- In range the one element is written and every other keeps its value. -/
theorem paint_of_lt {s : State} {index : Idx} (h : s.xfer.active = false) (hlen : s.pb.length = s.cfg.n)
    (hlt : index.toNat < s.cfg.n) (op : Mnemonic) (p : Pixel) :
    ∃ t, whileNoTransfer op (fun s => complete 0 (s.paintPixel (zextIndex index) p)) s = .next t ∧
      t.readPB index.toNat = some p ∧ (∀ j, j ≠ index.toNat → t.readPB j = s.readPB j) ∧ t.pb.length = s.pb.length ∧
      t = { s with pb := t.pb, resp := 0, host := .idle } := by
  rw [whileNoTransfer_of_inactive h, paintPixel_eq, if_pos hlt]
  exact ⟨_, rfl, readPB_writePB_same s _ p (hlen ▸ hlt), fun j hj => readPB_writePB_other s _ j p hj.symm, List.length_set, rfl⟩

/-- Out of range nothing is written ("silently ignored"). -/
theorem paint_of_le {s : State} {index : Idx} (h : s.xfer.active = false) (hle : s.cfg.n ≤ index.toNat) (op : Mnemonic)
    (p : Pixel) :
    whileNoTransfer op (fun s => complete 0 (s.paintPixel (zextIndex index) p)) s =
      .next { s with resp := 0, host := .idle } := by
  rw [whileNoTransfer_of_inactive h, paintPixel_eq, if_neg (Nat.not_lt.2 hle)]
  rfl

/-! ### The frame -/

/-- Whatever a command of 40_buffer_ops.md answers, it writes `PB`, `RESP`, the host's phase and `FAULT` at most. -/
theorem bufferCommand_writes {i : Instr} {s t : State}
    (hi : i.mnemonic ∈ [Mnemonic.setallRgb, .setallRgbw, .setpixelRgb, .setpixelRgbw, .clear, .size])
    (h : exec i s = .next t) :
    ∃ pb resp host fault, t = { s with pb := pb, resp := resp, host := host, fault := fault } := by
  have not_frame : ¬(i = .showCmd ∨ i = .showasync) := by
    rintro (rfl | rfl) <;> exact absurd hi (by decide)
  cases exec_effect i s t h with
  | misuse _ _ eq => exact ⟨_, _, _, _, eq⟩
  | fill p _ _ eq => exact ⟨_, _, _, _, eq⟩
  | pixel idx p _ _ eq =>
    rw [paintPixel_eq] at eq
    split at eq <;> exact ⟨_, _, _, _, eq⟩
  | size _ eq => exact ⟨_, _, _, _, eq⟩
  | frameNoSlot is | frameBusy is => exact absurd is not_frame
  | framePush _ is => exact absurd (is.imp And.left And.left) not_frame
  -- every other effect names a command outside the list
  | _ => simp_all [Instr.mnemonic]

/-- Settles O17: a buffer command writes `PB`, `RESP`, the host's phase and `FAULT` at most (`bufferCommand_writes`), and SIZE
answers the state with only the response and the phase written. -/
theorem bufferCommandsFrame : Obligations.BufferCommandsFrame := by
  unfold Obligations.BufferCommandsFrame
  intro i s t hi h
  have size_pb : i = .size → t.pb = s.pb := by
    rintro rfl
    cases h
    rfl
  obtain ⟨pb, resp, host, fault, rfl⟩ := bufferCommand_writes hi h
  exact ⟨rfl, rfl, rfl, rfl, fun _ => rfl, fun _ => rfl, rfl, rfl, rfl, rfl, rfl, rfl, rfl, rfl, rfl, rfl, rfl, rfl, rfl, rfl,
    fun is => ⟨size_pb is, fun j => congrArg (·[j]?) (size_pb is)⟩⟩

/-! ### The fills -/

/-- Settles O11: a fill without a transfer, the shared fault check with one; CLEAR is the same fill. -/
theorem setallRgbFillsWithoutWhite : Obligations.SetallRgbFillsWithoutWhite := by
  unfold Obligations.SetallRgbFillsWithoutWhite
  refine ⟨fun r g b => decode_join .setallRgb ⟨0x01, 0, r, g, b, 0⟩ rfl rfl, fun r g b s h => ?_, fun r g b s h => ?_,
    fun s h => ?_, fun s h hn => ?_⟩
  · rw [exec_setallRgb, fill_of_inactive h]
  · rw [exec_setallRgb, whileNoTransfer_of_active h]
  · rw [exec_setallRgb, exec_clear, fill_of_inactive h, fill_of_inactive h]
  · have hdec : decode 0x01000000FF000000 = .ok (.setallRgb 255 0 0) := by decide
    rw [accept_of_decode hdec, exec_setallRgb, fill_of_inactive h]
    exact ⟨_, rfl, by rw [hn]; rfl, rfl⟩

/-- Settles O12: a fill without a transfer, the shared fault check with one; SETALL_RGB is the same fill with white 0. -/
theorem setallRgbwFills : Obligations.SetallRgbwFills := by
  unfold Obligations.SetallRgbwFills
  refine ⟨fun r g b w => decode_join .setallRgbw ⟨0x02, 0, r, g, b, w⟩ rfl rfl, fun r g b w s h => ?_,
    fun r g b w s h => ?_, fun r g b s h => ?_, fun s h hn => ?_⟩
  · rw [exec_setallRgbw, fill_of_inactive h]
  · rw [exec_setallRgbw, whileNoTransfer_of_active h]
  · rw [exec_setallRgbw, exec_setallRgb, fill_of_inactive h, fill_of_inactive h]
  · have hdec : decode 0x0200000010203040 = .ok (.setallRgbw 0x10 0x20 0x30 0x40) := by decide
    rw [accept_of_decode hdec, exec_setallRgbw, fill_of_inactive h]
    exact ⟨_, rfl, by rw [hn]; rfl⟩

/-- Settles O15: a fill without a transfer, the shared fault check with one; the wire log is part of the frame
(`bufferCommand_writes`). -/
theorem clearTurnsEverySlotOff : Obligations.ClearTurnsEverySlotOff := by
  unfold Obligations.ClearTurnsEverySlotOff
  have hdec : decode 0x0500000000000000 = .ok .clear := by decide
  refine ⟨hdec, fun s h => ?_, fun s h => ?_, fun s h => ⟨?_, ?_⟩, fun s t ht => ?_, fun s h hn _ => ?_⟩
  · rw [exec_clear, fill_of_inactive h]
  · rw [exec_clear, whileNoTransfer_of_active h]
  · rw [exec_clear, exec_setallRgbw, fill_of_inactive h, fill_of_inactive h]
  · rw [exec_clear, exec_setallRgb, fill_of_inactive h, fill_of_inactive h]
  · obtain ⟨pb, resp, host, fault, rfl⟩ := bufferCommand_writes (by decide) ht
    rfl
  · rw [accept_of_decode hdec, exec_clear, fill_of_inactive h]
    exact ⟨_, rfl, by rw [hn]; rfl⟩

/-! ### One pixel -/

/-- Settles O13: without a transfer the command paints one pixel, in range or not; the examples are at the indices 2 and 3 of a
buffer of three. -/
theorem setpixelRgbWritesOne : Obligations.SetpixelRgbWritesOne := by
  unfold Obligations.SetpixelRgbWritesOne
  refine ⟨fun index r g b => decode_join .setpixelRgb ⟨0x03, index, r, g, b, 0⟩ rfl rfl, fun index r g b s h hlen hlt => ?_,
    fun index r g b s h hle => ?_, fun index r g b s h => ?_, fun s h hlen hn => ⟨?_, ?_⟩⟩
  · rw [exec_setpixelRgb]
    exact paint_of_lt h hlen hlt _ _
  · rw [exec_setpixelRgb, paint_of_le h hle]
  · rw [exec_setpixelRgb, whileNoTransfer_of_active h]
  · have hdec : decode 0x0300000212345600 = .ok (.setpixelRgb 2 0x12 0x34 0x56) := by decide
    have hlt : (2 : Idx).toNat < s.cfg.n := by simp [hn]
    rw [accept_of_decode hdec, exec_setpixelRgb]
    obtain ⟨t, ht, same, other, -⟩ := paint_of_lt h hlen hlt .setpixelRgb ⟨0x12, 0x34, 0x56, 0⟩
    exact ⟨t, ht, same, other 0 (by decide), other 1 (by decide)⟩
  · have hdec : decode 0x0300000312345600 = .ok (.setpixelRgb 3 0x12 0x34 0x56) := by decide
    have hle : s.cfg.n ≤ (3 : Idx).toNat := by simp [hn]
    rw [accept_of_decode hdec, exec_setpixelRgb, paint_of_le h hle]
    exact ⟨_, rfl, rfl⟩

/-- Settles O14: as O13; a buffer of one element is the element its read at 0 gives. -/
theorem setpixelRgbwWritesOne : Obligations.SetpixelRgbwWritesOne := by
  unfold Obligations.SetpixelRgbwWritesOne
  refine ⟨fun index r g b w => decode_join .setpixelRgbw ⟨0x04, index, r, g, b, w⟩ rfl rfl,
    fun index r g b w s h hlen hlt => ?_, fun index r g b w s h hle => ?_, fun index r g b w s h => ?_,
    fun s h hn hone => ?_⟩
  · rw [exec_setpixelRgbw]
    exact paint_of_lt h hlen hlt _ _
  · rw [exec_setpixelRgbw, paint_of_le h hle]
  · rw [exec_setpixelRgbw, whileNoTransfer_of_active h]
  · have hdec : decode 0x0400000010203040 = .ok (.setpixelRgbw 0 0x10 0x20 0x30 0x40) := by decide
    have hlt : (0 : Idx).toNat < s.cfg.n := by simp [hn]
    rw [accept_of_decode hdec, exec_setpixelRgbw]
    obtain ⟨t, ht, same, -, len, -⟩ := paint_of_lt h (hone.trans hn.symm) hlt .setpixelRgbw ⟨0x10, 0x20, 0x30, 0x40⟩
    obtain ⟨a, ha⟩ := List.length_eq_one_iff.1 (len.trans hone)
    exact ⟨t, ht, by simpa [State.readPB, ha] using same⟩

/-! ### The pixel count -/

theorem exec_size (s : State) : exec .size s = .next { s with resp := BitVec.ofNat 32 s.cfg.n, host := .idle } := rfl

/-- Settles O16: `exec_size` in every state; a legal pixel count is below `2^24` (R21), so 32 bits hold it. -/
theorem sizeRespondsPixelCount : Obligations.SizeRespondsPixelCount := by
  unfold Obligations.SizeRespondsPixelCount
  have hdec : decode 0x0E00000000000000 = .ok .size := by decide
  refine ⟨hdec, exec_size, fun s legal => ⟨_, exec_size s, ?_, rfl⟩, fun s hn => ?_⟩
  · obtain ⟨-, hn, -⟩ := (cfg_wf_iff ..).1 legal
    have hlt : s.cfg.n < 2 ^ 32 := by omega
    rw [BitVec.toNat_ofNat, Nat.mod_eq_of_lt hlt]
  · rw [accept_of_decode hdec]
    exact ⟨_, exec_size s, by rw [hn]; rfl⟩

end Sys2Proof.Machine
end

section
/-! SUPPORT. The colour pipeline (41_color_pipeline.md R120 to R125): the arithmetic of the scaling step, the per-channel transform
and the packings at its ends, the two commands, and the obligations about them. -/

namespace Sys2Proof.Machine

/-! ### The scaling step -/

theorem toNat_mul_toNat_le (g b : Byte) : g.toNat * b.toNat ≤ 65025 :=
  Nat.mul_le_mul (Nat.le_of_lt_succ g.isLt) (Nat.le_of_lt_succ b.isLt)

/-- R123: the quotient fits in a byte, so the narrowing of `scale` loses no bit. -/
theorem scale_toNat (g b : Byte) : (scale g b).toNat = (g.toNat * b.toNat + 127) / 255 := by
  have bound := toNat_mul_toNat_le g b
  rw [scale, BitVec.toNat_ofNat]
  omega

theorem scale_comm (g b : Byte) : scale g b = scale b g := by
  rw [scale, scale, Nat.mul_comm]

theorem scale_le_scale {g h b c : Byte} (hg : g.toNat ≤ h.toNat) (hb : b.toNat ≤ c.toNat) :
    (scale g b).toNat ≤ (scale h c).toNat := by
  rw [scale_toNat, scale_toNat]
  exact Nat.div_le_div_right (Nat.add_le_add_right (Nat.mul_le_mul hg hb) 127)

theorem scale_255_right (g : Byte) : scale g 255 = g := by
  apply BitVec.eq_of_toNat_eq
  have full : (255 : Byte).toNat = 255 := rfl
  rw [scale_toNat, full]
  omega

theorem scale_zero_right (g : Byte) : scale g 0 = 0 := by
  simp [scale]

/-- `scale` is monotone in `b`, and full brightness is the identity. -/
theorem scale_le_left (g b : Byte) : (scale g b).toNat ≤ g.toNat :=
  calc (scale g b).toNat
    _ ≤ (scale g 255).toNat := scale_le_scale le_rfl (Nat.le_of_lt_succ b.isLt)
    _ = g.toNat := by rw [scale_255_right]

theorem scale_le_right (g b : Byte) : (scale g b).toNat ≤ b.toNat :=
  scale_comm b g ▸ scale_le_left b g

/-- Settles O20: `scale_toNat` gives the quotient; the bias 127 is the largest integer below 255 / 2, so the quotient is the
nearest integer on both sides, and a tie would make the even number `2 * g * b` odd. -/
theorem scaleRoundsToNearest : Obligations.ScaleRoundsToNearest := by
  unfold Obligations.ScaleRoundsToNearest
  intro g b
  have bound := toNat_mul_toNat_le g b
  rw [scale_toNat]
  generalize g.toNat * b.toNat = p at bound ⊢
  refine ⟨?bound, rfl, ?below, ?above, fun k => ?noTie⟩
  all_goals omega

/-- Settles O21: monotonicity and the identity at full brightness, on both sides by `scale_comm`. -/
theorem scaleProperties : Obligations.ScaleProperties := by
  unfold Obligations.ScaleProperties
  refine ⟨fun v => ⟨scale_255_right v, scale_zero_right v⟩, fun v b c h => scale_le_scale le_rfl h, fun b => ⟨?_, ?_⟩,
    scale_comm, fun g h b hg => scale_le_scale hg le_rfl, fun g b => le_min (scale_le_left g b) (scale_le_right g b),
    by decide⟩
  · rw [scale_comm, scale_zero_right]
  · rw [scale_comm, scale_255_right]

/-! ### The transform of one channel, and the packings of dark channels -/

theorem apply_of_bri_zero {s : State} (h : s.bri = 0) (v : Byte) : s.apply v = 0 := by
  rw [State.apply, h, scale_zero_right]

theorem apply_of_bri_full {s : State} (h : s.bri = 255) (v : Byte) : s.apply v = if s.gen then s.readGT v else v := by
  rw [State.apply, h, scale_255_right]

theorem readGT_of_gt {s : State} {table : Vector Byte 256} (h : s.gt = table) (v : Byte) :
    s.readGT v = table[v.toNat]'v.isLt := by
  rw [← h, State.readGT]

/-- R122 with R26: without gamma the table is the identity, so reading it is the same as skipping it. -/
theorem apply_eq_scale_readGT {s : State} (h : s.gen = false → s.gt = identityGamma) (v : Byte) :
    s.apply v = scale (s.readGT v) s.bri := by
  cases hgen : s.gen with
  | true => rw [State.apply, hgen, if_pos rfl]
  | false => simp [State.apply, hgen, readGT_of_identityGamma s v (h hgen)]

theorem pack24_eq_zero {s : State} {p : Pixel} (r : s.apply p.r = 0) (g : s.apply p.g = 0) (b : s.apply p.b = 0) :
    s.pack24 p = 0 := by
  simp [State.pack24, r, g, b]

theorem pack32_eq_zero {s : State} {p : Pixel} (r : s.apply p.r = 0) (g : s.apply p.g = 0) (b : s.apply p.b = 0)
    (w : s.apply p.w = 0) : s.pack32 p = 0 := by
  simp [State.pack32, r, g, b, w]

/-- R120's corner case: at brightness 0 the frame is all-zero words, on either wire format. -/
theorem frameWords_of_bri_zero {s : State} (h : s.bri = 0) : ∀ w ∈ s.frameWords, w = 0 := by
  have dark := apply_of_bri_zero h
  intro w hw
  obtain ⟨p, -, rfl⟩ := List.mem_map.1 hw
  rw [State.packPixel]
  split
  · exact pack24_eq_zero (dark _) (dark _) (dark _)
  · exact pack32_eq_zero (dark _) (dark _) (dark _) (dark _)

/-! ### The two commands -/

/-- The word of a command whose one operand is in the lowest byte, by fields (R81). -/
theorem append_lowByte_eq_join (op b : Byte) : op ++ 0#24 ++ 0#24 ++ b = (⟨op, 0, 0, 0, 0, b⟩ : Fields).join := by
  apply BitVec.eq_of_getLsbD_eq
  intro k _
  simp only [Fields.join, BitVec.getLsbD_append]
  grind

theorem exec_setbrightness (b : Byte) (s : State) :
    exec (.setbrightness b) s = .next { s with bri := b, resp := 0, host := .idle } := rfl

theorem exec_enablegamma (on : Bool) (s : State) : exec (.enablegamma on) s = .next ((s.setGamma on).respond 0) := rfl

theorem bri_of_setbrightness {b : Byte} {s t : State} (h : exec (.setbrightness b) s = .next t) : t.bri = b := by
  cases h
  rfl

/-- R121: the curve or the identity, at every index. -/
theorem readGT_setGamma (s : State) (on : Bool) (v : Byte) :
    (s.setGamma on).readGT v = if on then s.par.gammaCurve[v.toNat]'v.isLt else v := by
  cases on with
  | true => rfl
  | false => exact readGT_of_identityGamma _ v rfl

/-- Where the table is the one `GEN` says, loading it again changes nothing. -/
theorem setGamma_gen_eq_self {s : State} (h : s.gt = if s.gen then s.par.gammaCurve else identityGamma) :
    s.setGamma s.gen = s := by
  rw [State.setGamma, ← h]

/-- Settles O18: the next state is that of `exec_setbrightness`, and the two ends of the scale are `frameWords_of_bri_zero` and
`apply_of_bri_full`. -/
theorem setbrightnessWritesBri : Obligations.SetbrightnessWritesBri := by
  unfold Obligations.SetbrightnessWritesBri
  refine ⟨fun b => ?_, exec_setbrightness,
    fun s t h => frameWords_of_bri_zero (bri_of_setbrightness h),
    fun s t v h => apply_of_bri_full (bri_of_setbrightness h) v, fun s => ?_⟩
  · rw [append_lowByte_eq_join]
    exact decode_join .setbrightness ⟨0x06, 0, 0, 0, 0, b⟩ rfl rfl
  · have hdec : decode 0x0600000000000080 = .ok (.setbrightness 128) := by decide
    rw [accept_of_decode hdec]
    exact ⟨_, exec_setbrightness 128 s, rfl⟩

/-- Settles O19: the command answers `setGamma`, whose table is read by `readGT_setGamma`; under the invariant the table is
already the one `GEN` says. -/
theorem enablegammaLoadsTheTable : Obligations.EnablegammaLoadsTheTable := by
  unfold Obligations.EnablegammaLoadsTheTable
  refine ⟨by decide, fun on s => ⟨_, exec_enablegamma on s, rfl, readGT_setGamma s on, rfl⟩, fun s inv => ?rewrite,
    fun s t u _ off v => ?off, fun s curve => ?curve⟩
  case rewrite =>
    rw [exec_enablegamma, setGamma_gen_eq_self inv.gamma]
    rfl
  case off =>
    cases off
    exact readGT_setGamma t false v
  case curve =>
    have hdec : decode 0x0700000000000001 = .ok (.enablegamma true) := by decide
    rw [accept_of_decode hdec]
    refine ⟨_, exec_enablegamma true s, rfl, ?_⟩
    exact (readGT_of_gt curve 128).trans (by decide)

/-! ### The order of the two stages -/

/-- Settles O22: the invariant's R26 makes `apply_eq_scale_readGT` apply; the example reads the default curve at 200 (149) and at
`scale 200 128 = 100` (33). -/
theorem gammaBeforeBrightness : Obligations.GammaBeforeBrightness := by
  unfold Obligations.GammaBeforeBrightness
  constructor
  · intro s v inv
    refine apply_eq_scale_readGT (fun off => ?_) v
    simpa [off] using inv.gamma
  · intro s on curve half
    have at200 : s.readGT 200 = 149 := (readGT_of_gt curve 200).trans (by decide)
    have at100 : s.readGT 100 = 33 := (readGT_of_gt curve 100).trans (by decide)
    have scale149 : scale 149 128 = 75 := by decide
    have scale200 : scale 200 128 = 100 := by decide
    rw [apply_eq_scale_readGT (by simp [on]), at200, half, scale149, scale200, at100]
    exact ⟨rfl, rfl⟩

end Sys2Proof.Machine
end

section
/-! SUPPORT. The frame encoder (42_frame_encoder.md R142, R143): the 32-bit packing, the frame it writes, and the obligations
about them. -/

namespace Sys2Proof.Machine

/-! ### The 32-bit packing -/

/-- Four bytes shifted to their places and joined by `or` are the concatenation. -/
theorem shiftLeft_or_eq_append (g r b w : Byte) :
    (g.zeroExtend 32 <<< 24) ||| (r.zeroExtend 32 <<< 16) ||| (b.zeroExtend 32 <<< 8) ||| w.zeroExtend 32 =
      g ++ r ++ b ++ w := by
  apply BitVec.eq_of_getLsbD_eq
  intro k _
  simp only [BitVec.getLsbD_or, BitVec.getLsbD_shiftLeft, BitVec.getLsbD_setWidth, BitVec.getLsbD_append]
  grind

theorem pack32_eq_append (s : State) (p : Pixel) :
    s.pack32 p = s.apply p.g ++ s.apply p.r ++ s.apply p.b ++ s.apply p.w :=
  shiftLeft_or_eq_append ..

/-- At full brightness and without gamma the transform is the identity. -/
theorem apply_of_identity {s : State} (bri : s.bri = 255) (gen : s.gen = false) (v : Byte) : s.apply v = v := by
  simp [apply_of_bri_full bri, gen]

theorem pack32_of_identity {s : State} (bri : s.bri = 255) (gen : s.gen = false) (p : Pixel) :
    s.pack32 p = p.g ++ p.r ++ p.b ++ p.w := by
  simp only [pack32_eq_append, apply_of_identity bri gen]

/-- A dark channel stays dark where the gamma table, if in use, keeps 0. -/
theorem apply_zero {s : State} (h : s.gen = true → s.readGT 0 = 0) : s.apply 0 = 0 := by
  have looked : (if s.gen then s.readGT 0 else 0) = 0 := ite_eq_right_iff.2 h
  rw [State.apply, looked, scale_comm, scale_zero_right]

/-- Settles O25: the packing is the concatenation of the four transformed channels, and the example is its identity case. -/
theorem packingOf32Bits : Obligations.PackingOf32Bits := by
  unfold Obligations.PackingOf32Bits
  refine ⟨pack32_eq_append, fun s p bri gen => pack32_of_identity bri gen p, fun s => apply_zero, fun s bri gen => ?sample⟩
  case sample =>
    rw [pack32_of_identity bri gen]
    rfl

/-! ### The frame -/

/-- Settles O26: a word of the new frame is read by `readSB_encodeFrame`, whose packing is the one of the wire format. -/
theorem encodeFrameInBufferOrder : Obligations.EncodeFrameInBufferOrder := by
  unfold Obligations.EncodeFrameInBufferOrder
  exact fun s => ⟨readSB_encodeFrame s, frameWords_length s, rfl⟩

end Sys2Proof.Machine
end

section
/-! SUPPORT. What BUSY responds once a frame is done (43_engine_commands.md R167, R168): which commands and which turns can start
a transfer, and the obligation about BUSY after WAIT, SHOW and END. -/

namespace Sys2Proof.Machine

open Sys2Proof.Safety

/-! ### The response of BUSY -/

theorem busyFlag_of_inactive {s : State} (h : s.xfer.active = false) : s.busyFlag = false := by
  cases hch : s.ch <;> simp [State.busyFlag, hch, h]

theorem busyFlag_of_unavailable {s : State} (h : s.ch = .unavailable) : s.busyFlag = false := by
  simp [State.busyFlag, h]

theorem busy_responds_zero {s : State} (h : s.busyFlag = false) : ∃ u, exec .busy s = .next u ∧ u.resp = 0 :=
  ⟨s.respond (boolWord s.busyFlag), rfl, by simp [h, boolWord]⟩

/-! ### What starts a transfer -/

/-- Only SHOW and SHOWASYNC start a transfer: BEGIN sets up an idle channel, END stops it, and the rest leave it alone. -/
theorem CommandEffect.starts_transfer {i : Instr} {s t : State} (effect : CommandEffect i s t)
    (before : s.xfer.active = false) (after : t.xfer.active = true) : i = .showCmd ∨ i = .showasync := by
  have unchanged : t.xfer = s.xfer → i = .showCmd ∨ i = .showasync := fun same => by simp [same, before] at after
  cases effect with
  | misuse _ _ eq | fill _ _ _ eq | brightness _ _ eq | gamma _ _ eq | busy _ eq | waitNothing _ _ eq | waits _ _ eq
  | endNothing _ _ eq | size _ eq => exact unchanged (eq ▸ rfl)
  | pixel idx p _ _ eq =>
    rw [paintPixel_eq] at eq
    split at eq <;> exact unchanged (eq ▸ rfl)
  | begins _ effect =>
    cases effect with
    | violation _ eq | noProgram _ _ _ eq | noSlot _ _ _ _ _ _ eq => exact unchanged (eq ▸ rfl)
    | success x y k d ch xfer _ _ _ channel eq =>
      subst eq
      rcases channel with ⟨-, -, -, same⟩ | ⟨c, -, -, -, idle⟩
      · exact unchanged same
      · simp [idle] at after
  | ends _ _ eq =>
    obtain ⟨x, log, -, -, form⟩ := end_form s
    rw [form] at eq
    simp [eq] at after
  | frameNoSlot is | frameBusy is => exact is
  | showChannel _ is => exact .inl is
  | asyncChannel _ is => exact .inr is
  | framePush _ is => exact is.imp And.left And.left

/-- A turn starts a transfer only where an idle host's next word is SHOW or SHOWASYNC. -/
theorem TurnEffect.starts_transfer {a : Agent} {s t : State} (effect : TurnEffect a s t)
    (before : s.xfer.active = false) (after : t.xfer.active = true) :
    s.host = .idle ∧ ∃ cw rest, s.port = cw :: rest ∧ (decode cw = .ok .showCmd ∨ decode cw = .ok .showasync) := by
  have moved : t.xfer ≠ s.xfer := fun same => by simp [same, before] at after
  cases effect with
  | command cw rest i _ idle port legal effect =>
    refine ⟨idle, cw, rest, port, ?_⟩
    rcases effect.starts_transfer before after with rfl | rfl
    · exact .inl legal
    · exact .inr legal
  | xferMove _ _ active => simp [before] at active
  | pushWord i k w _ _ _ _ eq =>
    rw [pushed_eq] at eq
    cases k <;> split at eq <;> exact absurd (eq ▸ rfl) moved
  | stutter eq | reserved _ _ _ _ _ _ _ eq | waitXferDone _ _ _ eq | latchDone _ _ _ eq | shiftWord _ _ _ _ _ _ eq
  | idleGap _ _ _ _ _ eq => exact absurd (eq ▸ rfl) moved

theorem step_starts_transfer {s t : State} (h : step s = .next t) (before : s.xfer.active = false)
    (after : t.xfer.active = true) :
    s.host = .idle ∧ ∃ cw rest, s.port = cw :: rest ∧ (decode cw = .ok .showCmd ∨ decode cw = .ok .showasync) :=
  (step_effect s t h).2.starts_transfer before after

/-! ### The latch wait and END -/

/-- R44 (e): the host waits for the latch only with the channel idle. -/
theorem inactive_of_latchWait {s : State} (inv : StateInv s) (h : s.host = .latchWait) : s.xfer.active = false := by
  refine Bool.eq_false_iff.2 fun active => ?_
  obtain ⟨-, -, -, host⟩ := inv.active active
  simp [h] at host

/-- A step from the latch wait starts no transfer, since the host is not idle. -/
theorem step_inactive_of_latchWait {s t : State} (inv : StateInv s) (h : s.host = .latchWait) (hstep : step s = .next t) :
    t.xfer.active = false := by
  refine Bool.eq_false_iff.2 fun active => ?_
  obtain ⟨idle, -⟩ := step_starts_transfer hstep (inactive_of_latchWait inv h) active
  cases h.symm.trans idle

theorem exec_endCmd (s : State) :
    exec .endCmd s = if s.st = .uninitialized then .next (s.respond 0) else
      .next ((((s.logAbort.abortXfer.setFifo []).releaseChannel.releaseSlot).setEngine .uninitialized).respond 0) := rfl

/-- After END no channel is held (R171). -/
theorem ch_of_endCmd {s t : State} (h : exec .endCmd s = .next t) (uninit : s.st = .uninitialized → s.ch = .unavailable) :
    t.ch = .unavailable := by
  rw [exec_endCmd] at h
  split at h
  · next hst =>
    cases h
    exact uninit hst
  · obtain ⟨x, log, -, -, form⟩ := end_form s
    rw [form] at h
    cases h
    rfl

/-- Settles O47: BUSY responds 0 where no transfer is active, as after the latch wait, or no channel is held, as after END; and a
transfer starts only with SHOW or SHOWASYNC (`step_starts_transfer`). -/
theorem busyFalseAfterWait : Obligations.BusyFalseAfterWait := by
  unfold Obligations.BusyFalseAfterWait
  refine ⟨fun s t inv held hstep _ => ?afterLatch, fun s t hend uninit => ?afterEnd,
    fun s t _ hstep before after => (step_starts_transfer hstep before after).2⟩
  case afterLatch => exact busy_responds_zero (busyFlag_of_inactive (step_inactive_of_latchWait inv held hstep))
  case afterEnd => exact busy_responds_zero (busyFlag_of_unavailable (ch_of_endCmd hend uninit))

end Sys2Proof.Machine
end

section
/-! SUPPORT. ColorModel's `hsv` (45_colormodel_hsv.md R220, R221): the colour without saturation, and the obligation about the
source's values. -/

namespace Sys2Proof.Machine

/-- Without chroma the sector does not matter (R220). -/
@[simp] theorem sectorChannels_zero (k : Int) : sectorChannels k 0 0 = (0, 0, 0) := by
  simp only [sectorChannels, ite_self]

theorem clamp01_zero : clamp01 0 = 0 := if_pos le_rfl

/-- Without saturation both the chroma and the second component are zero, so every channel is `rnd(v1)` (R221). -/
theorem hsv_zero_saturation (h v : Rat) :
    hsv h 0 v = ⟨roundChannel (clamp01 v), roundChannel (clamp01 v), roundChannel (clamp01 v)⟩ := by
  simp only [hsv, clamp01_zero, mul_zero, zero_mul, sectorChannels_zero, sub_zero, zero_add]

/-- Settles O57: the three primaries are evaluated, and without saturation all channels are equal by
`hsv_zero_saturation`. -/
theorem hsvRequiredValues : Obligations.HsvRequiredValues := by
  unfold Obligations.HsvRequiredValues
  refine ⟨by decide +kernel, by decide +kernel, by decide +kernel, fun h v => ?achromatic⟩
  case achromatic =>
    rw [hsv_zero_saturation]
    exact ⟨rfl, rfl⟩

end Sys2Proof.Machine
end

section
/-! SUPPORT. The two round trips of the encoding (30_encoding.md R82, R85, R87) and the agreement of the masks with the formats:
the fields a command is sent with and the operands a word holds are inverse to each other. -/

namespace Sys2Proof

/-! ### Encode, then decode -/

/-- R82: a command is sent with its format's unused fields at zero. -/
theorem unusedZero_fields (i : Instr) : i.mnemonic.format.unusedZero i.fields = true := by
  cases i with
  | enablegamma on => exact Laws.FieldsWf.enablegamma on
  | _ => rfl

theorem fields_op (i : Instr) : i.fields.op = i.mnemonic.opcode := by
  cases i <;> rfl

/-- The operands of the fields a command is sent with are the command's own. -/
theorem operands_fields (i : Instr) : i.mnemonic.operands i.fields = i := by
  cases i with
  | enablegamma on => cases on <;> rfl
  | _ => rfl

/-- Settles O2: the fields of a command have its opcode and zero unused fields, so their word decodes to the command's own
operands. -/
theorem decodeAfterEncode : Obligations.DecodeAfterEncode := by
  unfold Obligations.DecodeAfterEncode
  intro i
  calc decode (encode i)
    _ = .ok (i.mnemonic.operands i.fields) := decode_join i.mnemonic i.fields (fields_op i) (unusedZero_fields i)
    _ = .ok i := by rw [operands_fields]

/-! ### Decode, then encode -/

theorem row_op_eq_opcode : ∀ row ∈ opcodeTable, row.op = row.mnemonic.opcode := by decide

/-- A byte whose upper seven bits are zero is its lowest bit (the field `ON` of R81). -/
theorem onByte_of_upper_zero (w : Byte) (h : w.extractLsb' 1 7 = 0) : (if w.getLsbD 0 then 1 else 0) = w := by
  revert w
  decide

/-- Fields with a mnemonic's opcode and zero unused fields are those its operands are sent with: no bit is dropped. -/
theorem fields_operands (m : Mnemonic) (x : Fields) (hop : x.op = m.opcode) (hz : m.format.unusedZero x = true) :
    (m.operands x).fields = x := by
  obtain ⟨op, idx, r, g, b, w⟩ := x
  cases m with
  | enablegamma =>
    simp only [Mnemonic.format, Format.unusedZero, Bool.and_eq_true, beq_iff_eq] at hop hz
    obtain ⟨⟨⟨⟨hidx, hr⟩, hg⟩, hb⟩, hw⟩ := hz
    simp only [Mnemonic.operands, Instr.fields, onByte_of_upper_zero w hw, hop, hidx, hr, hg, hb]
  | _ => simp_all [Mnemonic.format, Format.unusedZero, Mnemonic.operands, Instr.fields]

/-- Settles O3: a legal word has its row's opcode and zero unused fields (`covers_iff`), so its fields are those of its operands,
and the word is the join of its fields. -/
theorem encodeAfterDecode : Obligations.EncodeAfterDecode := by
  unfold Obligations.EncodeAfterDecode
  intro cw i h
  obtain ⟨row, hrow, -, covers, rfl⟩ := (decode_ok cw i).1 h
  obtain ⟨hop, hz⟩ := (covers_iff hrow cw).1 covers
  have hfields := fields_operands row.mnemonic _ (hop.trans (row_op_eq_opcode row hrow)) hz
  rw [encode, hfields, join_split]

/-! ### Masks and formats -/

/-- A word with a row's opcode that the row does not cover is reserved for a non-zero unused field (R86). -/
theorem decode_of_not_covers {row : Row} {cw : Cmd} (hrow : row ∈ opcodeTable) (hop : (Fields.split cw).op = row.op)
    (uncovered : row.covers cw = false) : decode cw = .error (.unusedField row.mnemonic) := by
  rw [decode, (find_row _ _).2 ⟨hrow, hop.symm⟩]
  simp [uncovered]

/-- Settles O4: `covers_iff` for a word that has the row's opcode. -/
theorem masksAgreeWithFormats : Obligations.MasksAgreeWithFormats := by
  unfold Obligations.MasksAgreeWithFormats
  intro row hrow cw hop
  have agree : row.covers cw = row.mnemonic.format.unusedZero (Fields.split cw) :=
    Bool.eq_iff_iff.2 ((covers_iff hrow cw).trans (and_iff_right hop))
  exact ⟨agree, fun hz => decode_of_not_covers hrow hop (agree.trans hz)⟩

end Sys2Proof
end

section
/-! SUPPORT. One step (44_engine_agents.md R202) as an equation for each agent and phase: the acceptance of a command
(30_encoding.md R80), each agent's step where it is enabled, and the turn in which nothing moves. -/

namespace Sys2Proof.Machine

/-! ### The turn taken from the inputs -/

theorem takeTurn_eq (s : State) : s.takeTurn = { s with sched := s.sched.tail, turn := s.turn + 1 } := rfl

theorem cmdReady_iff (s : State) : s.cmdReady = true ↔ s.host = .idle ∧ s.fault = none := by
  simp [State.cmdReady]

/-- An idle host sends its next word. -/
theorem hostTurn_of_idle {s : State} {cw : Cmd} {rest : List Cmd} (idle : s.host = .idle) (port : s.port = cw :: rest) :
    hostTurn s = accept cw (s.setPort rest) := by
  simp only [hostTurn, idle, port]

/-- An idle host with nothing to send does nothing. -/
theorem hostTurn_of_port_nil {s : State} (idle : s.host = .idle) (port : s.port = []) : hostTurn s = .next s := by
  simp only [hostTurn, idle, port]

/-- A held host takes its phase's step. -/
theorem hostTurn_of_held {s : State} (held : s.host ≠ .idle) : hostTurn s = turnOf s.heldStep s := by
  cases h : s.host with
  | idle => exact absurd h held
  | _ => simp only [hostTurn, h]

/-- A turn in which the agent's step is enabled. -/
theorem step_of_turn_some {s t : State} {u : State → Option State} (safe : s.fault = none)
    (turn : agentTurn s.nextAgent s.takeTurn = turnOf (u s.takeTurn) s.takeTurn) (enabled : u s.takeTurn = some t) :
    step s = .next t := by
  rw [step_of_safe s safe, turn, enabled]
  rfl

/-- A turn in which the agent's step is not enabled moves nothing but the inputs. -/
theorem step_of_turn_none {s : State} {u : State → Option State} (safe : s.fault = none)
    (turn : agentTurn s.nextAgent s.takeTurn = turnOf (u s.takeTurn) s.takeTurn)
    (stuck : ∀ t, u s.takeTurn ≠ some t) : step s = .next s.takeTurn := by
  rw [step_of_safe s safe, turn, Option.eq_none_iff_forall_ne_some.2 stuck]
  rfl

/-- The turn of a held host. -/
theorem turn_of_held {s : State} (moves : s.nextAgent = .host) (held : s.host ≠ .idle) :
    agentTurn s.nextAgent s.takeTurn = turnOf s.takeTurn.heldStep s.takeTurn := by
  rw [moves]
  exact hostTurn_of_held held

theorem turn_of_channel {s : State} (moves : s.nextAgent = .channel) :
    agentTurn s.nextAgent s.takeTurn = turnOf s.takeTurn.xferMove s.takeTurn := by
  rw [moves]
  rfl

theorem turn_of_engine {s : State} (moves : s.nextAgent = .engine) :
    agentTurn s.nextAgent s.takeTurn = turnOf s.takeTurn.shiftWord s.takeTurn := by
  rw [moves]
  rfl

theorem turn_of_time {s : State} (moves : s.nextAgent = .time) :
    agentTurn s.nextAgent s.takeTurn = turnOf s.takeTurn.idleGap s.takeTurn := by
  rw [moves]
  rfl

/-! ### The acceptance of a command, and faulted states -/

/-- R80: a step of the ready host accepts the first word of the port. -/
theorem step_of_ready {s : State} {cw : Cmd} {rest : List Cmd} (ready : s.cmdReady = true) (moves : s.nextAgent = .host)
    (port : s.port = cw :: rest) : step s = accept cw (s.takeTurn.setPort rest) := by
  obtain ⟨idle, safe⟩ := (cmdReady_iff s).1 ready
  rw [step_of_safe s safe, moves]
  exact hostTurn_of_idle idle port

/-- Settles O6: the word accepted is decoded and its command executed (`accept_of_decode`). -/
theorem stepRunsDecodedCommand : Obligations.StepRunsDecodedCommand := by
  unfold Obligations.StepRunsDecodedCommand
  intro s cw rest i ready moves port legal
  rw [step_of_ready ready moves port, accept_of_decode legal]
  rfl

/-- Settles O9: a faulted state answers its fault and an unfaulted one a next state (`step_next`), so nothing is refused. -/
theorem faultedStateHasNoSuccessor : Obligations.FaultedStateHasNoSuccessor := by
  unfold Obligations.FaultedStateHasNoSuccessor
  refine ⟨step_of_fault, fun s t h => (step_effect s t h).1, fun s r h => ?_⟩
  cases hf : s.fault with
  | some f => simp [step_of_fault s f hf] at h
  | none =>
    obtain ⟨t, ht⟩ := step_next s hf
    cases ht.symm.trans h

/-! ### The agents -/

/-- The move of a word of an active transfer, field by field: the transfer stays active unless the count reaches 0. -/
theorem moveWord_of_active {s : State} (active : s.xfer.active = true) (w : Word32) :
    s.moveWord w =
      { s with fifo := s.fifo ++ [w], st := if s.xfer.rem - 1 = 0 then .ready else s.st,
               xfer := { s.xfer with rptr := s.xfer.rptr + 1, rem := s.xfer.rem - 1,
                                     active := !decide (s.xfer.rem - 1 = 0) } } := by
  rw [moveWord_eq]
  by_cases last : s.xfer.rem - 1 = 0
  · rw [if_pos last, if_pos last, decide_eq_true last]
    rfl
  · rw [if_neg last, if_neg last, decide_eq_false last, active]
    rfl

/-- Settles O37: `xferMove_some`, with the word moved by `moveWord_of_active`; with no transfer or a full queue it is not
enabled. -/
theorem xferMoveStep : Obligations.XferMoveStep := by
  unfold Obligations.XferMoveStep
  intro s safe moves
  have turn := turn_of_channel moves
  refine ⟨fun w active room word => ?moved, fun off => ?stuck⟩
  case moved =>
    exact step_of_turn_some safe turn
      ((xferMove_some _ _).2 ⟨active, room, w, word, moveWord_of_active (s := s.takeTurn) active w⟩)
  case stuck =>
    refine step_of_turn_none safe turn fun t ht => ?_
    obtain ⟨active, room, -⟩ := (xferMove_some _ _).1 ht
    rcases off with inactive | full
    · exact Bool.false_ne_true (inactive.symm.trans active)
    · exact absurd room (Nat.not_lt.2 full)

/-- Settles O38: `waitXferDone_some` in its two cases. -/
theorem waitXferDoneStep : Obligations.WaitXferDoneStep := by
  unfold Obligations.WaitXferDoneStep
  intro s safe moves held
  have turn := turn_of_held moves (by simp [held])
  have phase : s.takeTurn.heldStep = s.takeTurn.waitXferDone := by simp [State.heldStep, held]
  refine ⟨fun done => ?_, fun channel active => ?_⟩
  · exact step_of_turn_some safe turn (phase.trans ((waitXferDone_some _ _).2 ⟨held, done, rfl⟩))
  · refine step_of_turn_none safe turn fun t ht => ?_
    obtain ⟨-, none | inactive, -⟩ := (waitXferDone_some _ _).1 (phase.symm.trans ht)
    · exact channel none
    · exact Bool.false_ne_true (inactive.symm.trans active)

/-- Settles O39: `pushWord_some`, with the last word and the others, and the two followers, told apart (`pushed_eq`). -/
theorem pushWordStep : Obligations.PushWordStep := by
  unfold Obligations.PushWordStep
  intro s i k safe moves held
  have turn := turn_of_held moves (by simp [held])
  have phase : s.takeTurn.heldStep = s.takeTurn.pushWord := by simp [State.heldStep, held]
  have pushes : ∀ w, s.fifo.length < s.par.fifoDepth → s.readSB i.toNat = some w →
      step s = .next (s.takeTurn.pushed i k w) := fun w room word =>
    step_of_turn_some safe turn (phase.trans ((pushWord_some _ _).2 ⟨i, k, w, held, room, word, rfl⟩))
  refine ⟨fun w room word more => ?_, fun w room word last latch => ?_, fun w room word last ret => ?_, fun full => ?_⟩
  · rw [pushes w room word, pushed_eq, if_pos (by exact more)]
    rfl
  · rw [pushes w room word, pushed_eq, if_neg (by exact Nat.not_lt.2 last), latch]
    rfl
  · rw [pushes w room word, pushed_eq, if_neg (by exact Nat.not_lt.2 last), ret]
    rfl
  · refine step_of_turn_none safe turn fun t ht => ?_
    obtain ⟨-, -, -, -, room, -⟩ := (pushWord_some _ _).1 (phase.symm.trans ht)
    exact absurd room (Nat.not_lt.2 full)

/-- Settles O40: `latchDone_some`, enabled exactly with an empty queue. -/
theorem latchDoneStep : Obligations.LatchDoneStep := by
  unfold Obligations.LatchDoneStep
  intro s safe moves held
  have turn := turn_of_held moves (by simp [held])
  have phase : s.takeTurn.heldStep = s.takeTurn.latchDone := by simp [State.heldStep, held]
  refine ⟨fun empty => ?_, fun queued => ?_⟩
  · exact step_of_turn_some safe turn (phase.trans ((latchDone_some _ _).2 ⟨held, empty, rfl⟩))
  · refine step_of_turn_none safe turn fun t ht => ?_
    obtain ⟨-, empty, -⟩ := (latchDone_some _ _).1 (phase.symm.trans ht)
    exact queued empty

/-- The top 24 bits of a queue word are its bits 31 to 8. -/
theorem topBits_w24 (w : Word32) : topBits w .w24 = (w.extractLsb' 8 24).zeroExtend 32 := by
  apply BitVec.eq_of_getLsbD_eq
  intro k hk
  simp only [topBits, Width.bits, BitVec.getLsbD_ushiftRight, BitVec.getLsbD_setWidth, BitVec.getLsbD_extractLsb']
  grind

theorem topBits_w32 (w : Word32) : topBits w .w32 = w := by
  simp [topBits, Width.bits]

/-- Settles O41: `shiftWord_some`; the value logged is `topBits` of the head. -/
theorem shiftWordStep : Obligations.ShiftWordStep := by
  unfold Obligations.ShiftWordStep
  intro s safe moves
  have turn := turn_of_engine moves
  refine ⟨fun k w q slot queue => ⟨topBits w s.te.width, ?_, fun h => ?_, fun h => ?_⟩, fun off => ?_⟩
  · exact step_of_turn_some safe turn ((shiftWord_some _ _).2 ⟨k, w, q, slot, queue, rfl⟩)
  · rw [h, topBits_w24]
  · rw [h, topBits_w32]
  · refine step_of_turn_none safe turn fun t ht => ?_
    obtain ⟨k, w, q, slot, queue, -⟩ := (shiftWord_some _ _).1 ht
    rcases off with none | empty
    · cases none.symm.trans slot
    · cases empty.symm.trans queue

/-- Settles O42: `idleGap_some`, whose conditions are the four of R200. -/
theorem idleGapStep : Obligations.IdleGapStep := by
  unfold Obligations.IdleGapStep
  intro s safe moves
  have turn := turn_of_time moves
  refine ⟨fun slot idle inactive empty => ?_, fun off => ?_⟩
  · exact step_of_turn_some safe turn
      ((idleGap_some _ _).2 ⟨Option.ne_none_iff_exists'.1 slot, idle, inactive, empty, rfl⟩)
  · refine step_of_turn_none safe turn fun t ht => ?_
    obtain ⟨⟨k, slot⟩, idle, inactive, empty, -⟩ := (idleGap_some _ _).1 ht
    rcases off with none | held | active | queued
    · cases none.symm.trans slot
    · exact held idle
    · exact Bool.false_ne_true (inactive.symm.trans active)
    · exact queued empty

end Sys2Proof.Machine
end

section
/-! SUPPORT. What every command and every turn leaves as it was, and when a fault is recorded (60_exceptions.md R231 to R234);
the table of the commands by engine state (43_engine_commands.md R175). -/

namespace Sys2Proof.Machine

open Sys2Proof.Safety

/-! ### The configuration and the inputs -/

/-- A pixel command writes `PB` at most, and keeps its length. -/
theorem paintPixel_form (s : State) (idx : Idx) (p : Pixel) :
    ∃ q, q.length = s.pb.length ∧ s.paintPixel (zextIndex idx) p = { s with pb := q } := by
  rw [paintPixel_eq]
  split
  · exact ⟨_, List.length_set, rfl⟩
  · exact ⟨_, rfl, rfl⟩

/-- No command writes the configuration, the parameters or the model's own inputs. -/
theorem CommandEffect.keeps_inputs {i : Instr} {s t : State} (effect : CommandEffect i s t) :
    t.cfg = s.cfg ∧ t.par = s.par ∧ t.port = s.port ∧ t.sched = s.sched ∧ t.turn = s.turn := by
  cases effect with
  | pixel idx p _ _ eq =>
    obtain ⟨q, -, form⟩ := paintPixel_form s idx p
    rw [form] at eq
    subst eq
    exact ⟨rfl, rfl, rfl, rfl, rfl⟩
  | begins _ effect =>
    cases effect with
    | violation _ eq | noProgram _ _ _ eq | noSlot _ _ _ _ _ _ eq | success _ _ _ _ _ _ _ _ _ _ eq =>
      subst eq
      exact ⟨rfl, rfl, rfl, rfl, rfl⟩
  | ends _ _ eq =>
    obtain ⟨x, log, -, -, form⟩ := end_form s
    rw [form] at eq
    subst eq
    exact ⟨rfl, rfl, rfl, rfl, rfl⟩
  | misuse _ _ eq | fill _ _ _ eq | brightness _ _ eq | gamma _ _ eq | frameNoSlot _ _ eq | frameBusy _ _ _ eq
  | showChannel _ _ _ _ _ eq | asyncChannel _ _ _ _ _ eq | framePush _ _ _ _ _ eq | busy _ eq | waitNothing _ _ eq
  | waits _ _ eq | endNothing _ _ eq | size _ eq =>
    subst eq
    exact ⟨rfl, rfl, rfl, rfl, rfl⟩

/-- A pushed word changes the queue, the engine state, the phase and the response at most. -/
theorem pushed_form (s : State) (i : Idx) (k : AfterPush) (w : Word32) :
    ∃ st host resp, s.pushed i k w = { s with fifo := s.fifo ++ [w], st := st, host := host, resp := resp } := by
  rw [pushed_eq]
  split
  · exact ⟨_, _, _, rfl⟩
  · cases k <;> exact ⟨_, _, _, rfl⟩

/-- A turn keeps the configuration, the parameters and the schedule, and takes at most the first word of an idle host's port. -/
theorem TurnEffect.keeps_inputs {a : Agent} {s t : State} (effect : TurnEffect a s t) :
    t.cfg = s.cfg ∧ t.par = s.par ∧ t.sched = s.sched ∧ t.turn = s.turn ∧
      (t.port = s.port ∨ a = .host ∧ s.host = .idle ∧ ∃ cw, s.port = cw :: t.port) := by
  cases effect with
  | command cw rest i by_ idle port _ effect =>
    obtain ⟨cfg, par, hport, sched, turn⟩ := effect.keeps_inputs
    exact ⟨cfg, par, sched, turn, .inr ⟨by_, idle, cw, hport ▸ port⟩⟩
  | reserved cw rest _ by_ idle port _ eq =>
    subst eq
    exact ⟨rfl, rfl, rfl, rfl, .inr ⟨by_, idle, cw, port⟩⟩
  | pushWord i k w _ _ _ _ eq =>
    obtain ⟨st, host, resp, form⟩ := pushed_form s i k w
    rw [form] at eq
    subst eq
    exact ⟨rfl, rfl, rfl, rfl, .inl rfl⟩
  | xferMove w _ active _ _ eq =>
    rw [moveWord_of_active active] at eq
    subst eq
    exact ⟨rfl, rfl, rfl, rfl, .inl rfl⟩
  | stutter eq | waitXferDone _ _ _ eq | latchDone _ _ _ eq | shiftWord _ _ _ _ _ _ eq | idleGap _ _ _ _ _ eq =>
    subst eq
    exact ⟨rfl, rfl, rfl, rfl, .inl rfl⟩

/-- Settles O45: part of what every turn keeps. -/
theorem configurationNeverChanges : Obligations.ConfigurationNeverChanges := by
  unfold Obligations.ConfigurationNeverChanges
  intro s t h
  obtain ⟨cfg, par, -⟩ := (step_effect s t h).2.keeps_inputs
  exact ⟨cfg, par⟩

/-- Settles O7: a turn that changes the port is an idle host's (`TurnEffect.keeps_inputs`), and `step` tests the fault. -/
theorem wordsTakenOnlyWhenReady : Obligations.WordsTakenOnlyWhenReady := by
  unfold Obligations.WordsTakenOnlyWhenReady
  intro s t h changed
  obtain ⟨safe, effect⟩ := step_effect s t h
  obtain ⟨-, -, -, -, same | ⟨moves, idle, port⟩⟩ := effect.keeps_inputs
  · exact absurd same changed
  · exact ⟨(cmdReady_iff s).2 ⟨idle, safe⟩, moves, port⟩

/-! ### Faults -/

/-- When the command `i` faults with `f` (R233, R234). -/
def CommandFault (i : Instr) (s : State) (f : Fault) : Prop :=
  (f = .lifecycleViolation i.mnemonic ∧
    ((i = .beginCmd ∧ s.st ≠ .uninitialized) ∨ ((i = .showCmd ∨ i = .showasync) ∧ s.st = .uninitialized))) ∨
  (f = .misuseHazard i.mnemonic ∧ s.xfer.active = true ∧
    i.mnemonic ∈ [Mnemonic.setallRgb, .setallRgbw, .setpixelRgb, .setpixelRgbw, .clear, .showCmd, .showasync])

/-- A command that records a fault changes nothing else, and does so on the fault's condition. -/
theorem CommandEffect.fault_cases {i : Instr} {s t : State} {f : Fault} (effect : CommandEffect i s t)
    (before : s.fault = none) (after : t.fault = some f) : t = s.withFault f ∧ CommandFault i s f := by
  have unchanged : t.fault = s.fault → t = s.withFault f ∧ CommandFault i s f := fun same => by simp [same, before] at after
  cases effect with
  | misuse active paints eq =>
    subst eq
    cases after
    exact ⟨rfl, .inr ⟨rfl, active, List.mem_append_left [Mnemonic.showCmd, .showasync] paints⟩⟩
  | frameNoSlot is uninit eq =>
    subst eq
    cases after
    exact ⟨rfl, .inl ⟨rfl, .inr ⟨is, uninit⟩⟩⟩
  | frameBusy is _ active eq =>
    subst eq
    cases after
    exact ⟨rfl, .inr ⟨rfl, active, by rcases is with rfl | rfl <;> decide⟩⟩
  | begins is effect =>
    cases effect with
    | violation held eq =>
      subst eq is
      cases after
      exact ⟨rfl, .inl ⟨rfl, .inl ⟨rfl, held⟩⟩⟩
    | noProgram _ _ _ eq | noSlot _ _ _ _ _ _ eq | success _ _ _ _ _ _ _ _ _ _ eq => exact unchanged (eq ▸ rfl)
  | pixel idx p _ _ eq =>
    obtain ⟨q, -, form⟩ := paintPixel_form s idx p
    rw [form] at eq
    exact unchanged (eq ▸ rfl)
  | ends _ _ eq =>
    obtain ⟨x, log, -, -, form⟩ := end_form s
    rw [form] at eq
    exact unchanged (eq ▸ rfl)
  | fill _ _ _ eq | brightness _ _ eq | gamma _ _ eq | showChannel _ _ _ _ _ eq | asyncChannel _ _ _ _ _ eq
  | framePush _ _ _ _ _ eq | busy _ eq | waitNothing _ _ eq | waits _ _ eq | endNothing _ _ eq | size _ eq =>
    exact unchanged (eq ▸ rfl)

/-- A turn that records a fault is the acceptance of a word: a reserved one, or a command on its fault's condition. -/
theorem TurnEffect.fault_cases {a : Agent} {s t : State} {f : Fault} (effect : TurnEffect a s t)
    (before : s.fault = none) (after : t.fault = some f) :
    a = .host ∧ s.host = .idle ∧ ∃ cw rest, s.port = cw :: rest ∧ t = (s.setPort rest).withFault f ∧
      ((f = .illegalCommand cw ∧ ∀ i, decode cw ≠ .ok i) ∨ ∃ i, decode cw = .ok i ∧ CommandFault i s f) := by
  have unchanged : t.fault ≠ s.fault := fun same => by simp [same, before] at after
  cases effect with
  | command cw rest i by_ idle port legal effect =>
    obtain ⟨eq, cond⟩ := effect.fault_cases before after
    exact ⟨by_, idle, cw, rest, port, eq, .inr ⟨i, legal, cond⟩⟩
  | reserved cw rest e by_ idle port bad eq =>
    subst eq
    cases after
    exact ⟨by_, idle, cw, rest, port, rfl, .inl ⟨rfl, fun i hi => by cases bad.symm.trans hi⟩⟩
  | pushWord i k w _ _ _ _ eq =>
    obtain ⟨st, host, resp, form⟩ := pushed_form s i k w
    rw [form] at eq
    exact absurd (eq ▸ rfl) unchanged
  | xferMove w _ active _ _ eq =>
    rw [moveWord_of_active active] at eq
    exact absurd (eq ▸ rfl) unchanged
  | stutter eq | waitXferDone _ _ _ eq | latchDone _ _ _ eq | shiftWord _ _ _ _ _ _ eq | idleGap _ _ _ _ _ eq =>
    exact absurd (eq ▸ rfl) unchanged

/-- Settles O8: `TurnEffect.fault_cases` for the turn the step is. -/
theorem faultsOnlyOnTheirConditions : Obligations.FaultsOnlyOnTheirConditions := by
  unfold Obligations.FaultsOnlyOnTheirConditions
  intro s t f safe h after
  obtain ⟨moves, idle, cw, rest, port, eq, cond⟩ := (step_effect s t h).2.fault_cases safe after
  exact ⟨moves, idle, cw, rest, port, eq, cond⟩

/-- A command not on the condition of a fault is performed: it answers a next state without a fault. -/
theorem exec_performed {i : Instr} {s : State} (safe : s.fault = none) (ok : ∀ f, ¬CommandFault i s f) :
    ∃ t, exec i s = .next t ∧ t.fault = none := by
  obtain ⟨t, ht⟩ := exec_next i s
  refine ⟨t, ht, Option.eq_none_iff_forall_ne_some.2 fun f hf => ?_⟩
  obtain ⟨-, cond⟩ := (exec_effect i s t ht).fault_cases safe hf
  exact ok f cond

/-! ### The commands of the transmission engine, by the state they find -/

theorem exec_paint_of_active {i : Instr} {s : State}
    (hi : i.mnemonic ∈ [Mnemonic.setallRgb, .setallRgbw, .setpixelRgb, .setpixelRgbw, .clear])
    (active : s.xfer.active = true) : exec i s = .next { s with fault := some (.misuseHazard i.mnemonic) } := by
  cases i with
  | setallRgb r g b | setallRgbw r g b w | setpixelRgb idx r g b | setpixelRgbw idx r g b w | clear =>
    simp only [exec_setallRgb, exec_setallRgbw, exec_setpixelRgb, exec_setpixelRgbw, exec_clear,
      whileNoTransfer_of_active active, Instr.mnemonic]
  | _ => simp [Instr.mnemonic] at hi

theorem exec_beginCmd_of_held {s : State} (held : s.st ≠ .uninitialized) :
    exec .beginCmd s = .next { s with fault := some (.lifecycleViolation .beginCmd) } :=
  if_neg held

theorem startFrame_of_uninit {s : State} (uninit : s.st = .uninitialized) (op : Mnemonic) (k : State → Result) :
    startFrame op k s = .next { s with fault := some (.lifecycleViolation op) } := by
  rw [startFrame_eq, if_pos uninit]
  rfl

theorem startFrame_of_active {s : State} (held : s.st ≠ .uninitialized) (active : s.xfer.active = true) (op : Mnemonic)
    (k : State → Result) : startFrame op k s = .next { s with fault := some (.misuseHazard op) } := by
  rw [startFrame_eq, if_neg held, if_pos active]
  rfl

theorem startFrame_of_inactive {s : State} (held : s.st ≠ .uninitialized) (inactive : s.xfer.active = false) (op : Mnemonic)
    (k : State → Result) : startFrame op k s = k (s.encodeFrame.setEngine .transmitting) := by
  rw [startFrame_eq, if_neg held, if_neg (Bool.eq_false_iff.1 inactive)]

theorem exec_showCmd (s : State) : exec .showCmd s = execShow s := rfl

theorem exec_showasync (s : State) : exec .showasync s = execShowasync s := rfl

theorem exec_frame_of_uninit {i : Instr} {s : State} (hi : i = .showCmd ∨ i = .showasync) (uninit : s.st = .uninitialized) :
    exec i s = .next { s with fault := some (.lifecycleViolation i.mnemonic) } := by
  rcases hi with rfl | rfl
  · exact (exec_showCmd s).trans (startFrame_of_uninit uninit _ _)
  · exact (exec_showasync s).trans (startFrame_of_uninit uninit _ _)

theorem exec_frame_of_active {i : Instr} {s : State} (hi : i = .showCmd ∨ i = .showasync) (held : s.st ≠ .uninitialized)
    (active : s.xfer.active = true) : exec i s = .next { s with fault := some (.misuseHazard i.mnemonic) } := by
  rcases hi with rfl | rfl
  · exact (exec_showCmd s).trans (startFrame_of_active held active _ _)
  · exact (exec_showasync s).trans (startFrame_of_active held active _ _)

theorem exec_wait_of_uninit {s : State} (uninit : s.st = .uninitialized) :
    exec .wait s = .next { s with resp := 0, host := .idle } :=
  if_pos uninit

theorem exec_wait_of_held {s : State} (held : s.st ≠ .uninitialized) : exec .wait s = .next (s.setPhase .waitXfer) :=
  if_neg held

theorem exec_endCmd_of_uninit {s : State} (uninit : s.st = .uninitialized) :
    exec .endCmd s = .next { s with resp := 0, host := .idle } :=
  if_pos uninit

theorem exec_busy (s : State) : exec .busy s = .next { s with resp := boolWord s.busyFlag, host := .idle } := rfl

theorem exec_showCmd_of_channel {s : State} {c : Nat} (held : s.st ≠ .uninitialized) (inactive : s.xfer.active = false)
    (ch : s.ch = .available c) :
    exec .showCmd s = .next ((s.encodeFrame.setEngine .transmitting).startXfer.setPhase .waitXfer) := by
  rw [exec_showCmd, execShow, startFrame_of_inactive held inactive]
  simp only [State.setEngine_ch, State.encodeFrame_ch, ch]

theorem exec_showCmd_of_no_channel {s : State} (held : s.st ≠ .uninitialized) (inactive : s.xfer.active = false)
    (ch : s.ch = .unavailable) :
    exec .showCmd s = .next ((s.encodeFrame.setEngine .transmitting).setPhase (.pushing 0 .thenLatch)) := by
  rw [exec_showCmd, execShow, startFrame_of_inactive held inactive]
  simp only [State.setEngine_ch, State.encodeFrame_ch, ch]

theorem exec_showasync_of_channel {s : State} {c : Nat} (held : s.st ≠ .uninitialized) (inactive : s.xfer.active = false)
    (ch : s.ch = .available c) :
    exec .showasync s = .next ((s.encodeFrame.setEngine .transmitting).startXfer.respond 0) := by
  rw [exec_showasync, execShowasync, startFrame_of_inactive held inactive]
  simp only [State.setEngine_ch, State.encodeFrame_ch, ch, complete]

theorem exec_showasync_of_no_channel {s : State} (held : s.st ≠ .uninitialized) (inactive : s.xfer.active = false)
    (ch : s.ch = .unavailable) :
    exec .showasync s = .next ((s.encodeFrame.setEngine .transmitting).setPhase (.pushing 0 .thenReturn)) := by
  rw [exec_showasync, execShowasync, startFrame_of_inactive held inactive]
  simp only [State.setEngine_ch, State.encodeFrame_ch, ch]

/-- Settles O31: the shared checks pass, and the channel held decides between the two paths. -/
theorem showStartsFrame : Obligations.ShowStartsFrame := by
  unfold Obligations.ShowStartsFrame
  exact ⟨by decide, fun s c held inactive ch => exec_showCmd_of_channel held inactive ch,
    fun s held inactive ch => exec_showCmd_of_no_channel held inactive ch⟩

/-- Settles O32: as O31, with the command completed at once where there is a channel. -/
theorem showasyncStartsFrame : Obligations.ShowasyncStartsFrame := by
  unfold Obligations.ShowasyncStartsFrame
  exact ⟨by decide, fun s c held inactive ch => exec_showasync_of_channel held inactive ch,
    fun s held inactive ch => exec_showasync_of_no_channel held inactive ch⟩

/-- Settles O33: the flag is the channel's activity, and without a channel 0; in `Uninitialized` no channel is held and the host is
idle by the invariant. -/
theorem busyReportsTheChannel : Obligations.BusyReportsTheChannel := by
  unfold Obligations.BusyReportsTheChannel
  refine ⟨by decide, fun s c ch => ?_, fun s ch => ?_, fun s inv uninit => ?_⟩
  · simp [exec_busy, State.busyFlag, ch, boolWord]
  · rw [exec_busy, busyFlag_of_unavailable ch]
    rfl
  · obtain ⟨ch, -, -, idle⟩ := inv.uninit uninit
    rw [exec_busy, busyFlag_of_unavailable ch, ← idle]
    rfl

/-- Settles O34: the two branches of WAIT. -/
theorem waitHoldsTheHost : Obligations.WaitHoldsTheHost := by
  unfold Obligations.WaitHoldsTheHost
  exact ⟨by decide, fun s uninit => exec_wait_of_uninit uninit, fun s held => exec_wait_of_held held⟩

/-! ### The table of R175 -/

/-- A response of an idle host writes `RESP` alone. -/
theorem respond_of_idle {s : State} (idle : s.host = .idle) (v : Word32) : s.respond v = { s with resp := v } := by
  rw [State.respond, ← idle]

/-- R27: while the host is idle, `Transmitting` means an active transfer. -/
theorem transmitting_iff_active {s : State} (inv : StateInv s) (idle : s.host = .idle) :
    s.st = .transmitting ↔ s.xfer.active = true := by
  rw [inv.transmitting]
  simp [idle]

/-- R44 (e): the flag BUSY reads is the transfer's own. -/
theorem busyFlag_eq_active {s : State} (inv : StateInv s) : s.busyFlag = s.xfer.active := by
  cases active : s.xfer.active with
  | false => exact busyFlag_of_inactive active
  | true =>
    obtain ⟨⟨c, ch⟩, -⟩ := inv.active active
    simp [State.busyFlag, ch, active]

/-- Settles O10: a command not on a fault's condition is performed (`exec_performed`), and the faults and responses are those of
the commands' own lemmas; `Transmitting` in a ready state is an active transfer. -/
theorem commandByStateTable : Obligations.CommandByStateTable := by
  unfold Obligations.CommandByStateTable
  intro s inv ready
  obtain ⟨idle, safe⟩ := (cmdReady_iff s).1 ready
  have sending := transmitting_iff_active inv idle
  have same_host : ∀ v, ({ s with resp := v, host := .idle } : State) = { s with resp := v } := respond_of_idle idle
  refine ⟨fun i hi => ⟨fun h => ?paints, fun h => ?paintFault⟩, fun i hi => ?pipeline, ⟨fun h => ?begins, fun h => ?beginFault⟩,
    fun i hi => ⟨fun h => ?frameUninit, fun h => ?frame, fun h => ?frameFault⟩, ?busy,
    fun i hi => ⟨fun h => ?nothing, fun h => ?held⟩, sending.1⟩
  case paints =>
    refine exec_performed safe fun f cond => ?_
    rcases cond with ⟨-, ⟨rfl, -⟩ | ⟨rfl | rfl, -⟩⟩ | ⟨-, active, -⟩
    · exact absurd hi (by decide)
    · exact absurd hi (by decide)
    · exact absurd hi (by decide)
    · exact h (sending.2 active)
  case paintFault => exact exec_paint_of_active hi (sending.1 h)
  case pipeline =>
    refine exec_performed safe fun f cond => ?_
    rcases cond with ⟨-, ⟨rfl, -⟩ | ⟨rfl | rfl, -⟩⟩ | ⟨-, -, paints⟩
    · exact absurd hi (by decide)
    · exact absurd hi (by decide)
    · exact absurd hi (by decide)
    · generalize i.mnemonic = m at hi paints
      revert m
      decide
  case begins =>
    refine exec_performed safe fun f cond => ?_
    rcases cond with ⟨-, ⟨-, held⟩ | ⟨is, -⟩⟩ | ⟨-, -, paints⟩
    · exact held h
    · simp at is
    · exact absurd paints (by decide)
  case beginFault => exact exec_beginCmd_of_held h
  case frameUninit => exact exec_frame_of_uninit hi h
  case frame =>
    refine exec_performed safe fun f cond => ?_
    rcases cond with ⟨-, ⟨rfl, -⟩ | ⟨-, uninit⟩⟩ | ⟨-, active, -⟩
    · simp at hi
    · cases h.symm.trans uninit
    · cases h.symm.trans (sending.2 active)
  case frameFault => exact exec_frame_of_active hi (by simp [h]) (sending.1 h)
  case busy =>
    rw [exec_busy, same_host, busyFlag_eq_active inv]
    simp [sending, boolWord]
  case nothing =>
    rw [← same_host]
    rcases hi with rfl | rfl
    · exact exec_wait_of_uninit h
    · exact exec_endCmd_of_uninit h
  case held =>
    refine exec_performed safe fun f cond => ?_
    rcases hi with rfl | rfl <;> simp [CommandFault, Instr.mnemonic] at cond

/-! ### The pipeline commands -/

/-- Settles O23: the two commands answer a state with only their register and the response written. -/
theorem pipelineCommandsFrame : Obligations.PipelineCommandsFrame := by
  unfold Obligations.PipelineCommandsFrame
  intro i s t hi h
  cases i with
  | setbrightness b =>
    cases h
    simp [State.readPB, State.readSB, Instr.mnemonic]
  | enablegamma on =>
    cases h
    simp [State.readPB, State.readSB, Instr.mnemonic]
  | _ => simp [Instr.mnemonic] at hi

end Sys2Proof.Machine
end

section
/-! SUPPORT. BEGIN and END on the platform (43_engine_commands.md R160, R161, R171): what step 1 leaves of the programs, which
claims a success and an END change, the frame of the six engine commands, and the obligations about them. -/

namespace Sys2Proof.Machine

open Sys2Proof.Safety

/-! ### The platform after step 1 -/

theorem LoadsTo.slotBit_eq {s : State} {x : Plat} (h : LoadsTo s x) (b k : Nat) : x.slotBit b k = s.plat.slotBit b k := by
  rcases h with ⟨_, -, rfl⟩ | ⟨-, -, _, rfl⟩ <;> rfl

theorem LoadsTo.chanBit_eq {s : State} {x : Plat} (h : LoadsTo s x) (c : Nat) : x.chanBit c = s.plat.chanBit c := by
  rcases h with ⟨_, -, rfl⟩ | ⟨-, -, _, rfl⟩ <;> rfl

theorem LoadsTo.wf {s : State} {x : Plat} (h : LoadsTo s x) {p : Params} (hwf : s.plat.wf p = true) : x.wf p = true := by
  rcases h with ⟨_, -, rfl⟩ | ⟨-, -, off, rfl⟩
  · exact hwf
  · exact load_wf _ _ _ off hwf

theorem LoadsTo.program_other {s : State} {x : Plat} (h : LoadsTo s x) {b : Nat} (hb : b ≠ s.cfg.block) :
    x.program b = s.plat.program b := by
  rcases h with ⟨_, -, rfl⟩ | ⟨-, -, off, rfl⟩
  · rfl
  · exact load_program_other _ _ _ _ hb

/-- A loaded program is kept where it is. -/
theorem LoadsTo.eq_of_loaded {s : State} {x : Plat} (h : LoadsTo s x) {off : Nat}
    (loaded : s.plat.program s.cfg.block = .loaded off) : x = s.plat := by
  rcases h with ⟨_, -, rfl⟩ | ⟨missing, -⟩
  · rfl
  · cases loaded.symm.trans missing

/-- Whatever block is asked for, a loaded program stays at its offset. -/
theorem LoadsTo.keeps_program {s : State} {x : Plat} (h : LoadsTo s x) {b off : Nat}
    (loaded : s.plat.program b = .loaded off) : x.program b = .loaded off := by
  by_cases hb : b = s.cfg.block
  · rw [h.eq_of_loaded (hb ▸ loaded), loaded]
  · rw [h.program_other hb, loaded]

/-- After step 1 on a legal platform the block holds the program. -/
theorem LoadsTo.program_loaded {s : State} {x : Plat} (h : LoadsTo s x) (legal : s.cfg.wf s.par = true)
    (hwf : s.plat.wf s.par = true) : ∃ off, x.program s.cfg.block = .loaded off := by
  obtain ⟨-, -, -, hblock, -⟩ := (cfg_wf_iff ..).1 legal
  obtain ⟨hlen, -⟩ := (plat_wf_iff ..).1 hwf
  rcases h with ⟨off, loaded, rfl⟩ | ⟨-, -, off, rfl⟩
  · exact ⟨off, loaded⟩
  · exact ⟨off, load_program_same _ _ _ (hlen ▸ hblock)⟩

/-! ### The claims of a success -/

/-- What a BEGIN that succeeds leaves of the platform, `x` after step 1, with slot `k` and channel `ch` held. -/
def ClaimsTo (s : State) (x y : Plat) (k : Nat) (ch : Channel) (xfer : Xfer) : Prop :=
  s.plat.freeChans s.par = [] ∧ y = x.setSlot s.cfg.block k true ∧ ch = .unavailable ∧ xfer = s.xfer ∨
  ∃ c, c ∈ s.plat.freeChans s.par ∧ y = (x.setSlot s.cfg.block k true).setChan c true ∧ ch = .available c ∧
    xfer = ⟨false, 0, 0, beginXferConf⟩

section

variable {s : State} {x y : Plat} {k : Nat} {ch : Channel} {xfer : Xfer}

theorem ClaimsTo.slotBit_eq (h : ClaimsTo s x y k ch xfer) (b j : Nat) :
    y.slotBit b j = (x.setSlot s.cfg.block k true).slotBit b j := by
  rcases h with ⟨-, rfl, -⟩ | ⟨c, -, rfl, -⟩ <;> rfl

theorem ClaimsTo.prog_eq (h : ClaimsTo s x y k ch xfer) : y.prog = x.prog := by
  rcases h with ⟨-, rfl, -⟩ | ⟨c, -, rfl, -⟩ <;> rfl

theorem ClaimsTo.program_eq (h : ClaimsTo s x y k ch xfer) (b : Nat) : y.program b = x.program b := by
  rw [Plat.program, h.prog_eq, Plat.program]

theorem ClaimsTo.wf (h : ClaimsTo s x y k ch xfer) {p : Params} (hwf : x.wf p = true) : y.wf p = true := by
  rcases h with ⟨-, rfl, -⟩ | ⟨c, -, rfl, -⟩
  · exact setSlot_wf _ _ _ _ _ hwf
  · exact setChan_wf _ _ _ _ (setSlot_wf _ _ _ _ _ hwf)

/-- Only the slot held changes its claim. -/
theorem ClaimsTo.slotBit_other (h : ClaimsTo s x y k ch xfer) (loads : LoadsTo s x) {b j : Nat}
    (other : b ≠ s.cfg.block ∨ j ≠ k) : y.slotBit b j = s.plat.slotBit b j := by
  rw [h.slotBit_eq, setSlot_slotBit, if_neg (not_and_or.2 other), loads.slotBit_eq]

/-- The slot held is claimed, where it is one of the platform's. -/
theorem ClaimsTo.slotBit_held (h : ClaimsTo s x y k ch xfer) (hwf : x.wf s.par = true)
    (hblock : s.cfg.block < s.par.nblocks) (hk : k < s.par.nslots) : y.slotBit s.cfg.block k = true := by
  rw [h.slotBit_eq, setSlot_slotBit, if_pos ⟨rfl, rfl⟩, slotRow_length _ _ _ hwf hblock, decide_eq_true hk]
  rfl

/-- Only the channel held changes its claim. -/
theorem ClaimsTo.chanBit_other (h : ClaimsTo s x y k ch xfer) (loads : LoadsTo s x) {c : Nat}
    (other : ch ≠ .available c) : y.chanBit c = s.plat.chanBit c := by
  rcases h with ⟨-, rfl, -⟩ | ⟨d, -, rfl, rfl, -⟩
  · exact loads.chanBit_eq c
  · have hne : c ≠ d := fun h => other (h ▸ rfl)
    rw [setChan_chanBit, if_neg hne, setSlot_chanBit, loads.chanBit_eq]

/-- The channel held was free, and is claimed and configured. -/
theorem ClaimsTo.channel_held (h : ClaimsTo s x y k ch xfer) (hwf : x.wf s.par = true) {c : Nat} (held : ch = .available c) :
    c < s.par.nchan ∧ s.plat.chanBit c = false ∧ y.chanBit c = true ∧ xfer = ⟨false, 0, 0, beginXferConf⟩ := by
  rcases h with ⟨-, -, none, -⟩ | ⟨d, free, rfl, is, conf⟩
  · cases none.symm.trans held
  · cases is.symm.trans held
    obtain ⟨hlt, hfree⟩ := (mem_freeChans ..).1 free
    obtain ⟨-, -, -, hlen⟩ := (plat_wf_iff ..).1 hwf
    refine ⟨hlt, hfree, ?_, conf⟩
    rw [setChan_chanBit, if_pos rfl, show (x.setSlot s.cfg.block k true).chanClaimed = x.chanClaimed from rfl, hlen,
      decide_eq_true hlt]
    rfl

end

/-- The slot a success holds is one of the block's: a legal request, or one of the free ones. -/
theorem chosen_slot_lt {s : State} {k : Nat} (legal : s.cfg.wf s.par = true)
    (chosen : s.cfg.slotReq ≠ -1 ∧ k = s.cfg.slotReq.toNat ∨ s.cfg.slotReq = -1 ∧ k ∈ s.plat.freeSlots s.par s.cfg.block) :
    k < s.par.nslots := by
  obtain ⟨-, -, -, -, hlow, hhigh⟩ := (cfg_wf_iff ..).1 legal
  rcases chosen with ⟨requested, rfl⟩ | ⟨-, free⟩
  · omega
  · exact ((mem_freeSlots ..).1 free).1

/-! ### BEGIN -/

/-- A program that is neither loaded nor fits is no premise for a success. -/
theorem not_loadable {s : State} (missing : s.plat.program s.cfg.block = .notLoaded)
    (unfit : s.par.progFits.getD s.cfg.block false = false) :
    ¬(s.plat.program s.cfg.block ≠ .notLoaded ∨ s.par.progFits.getD s.cfg.block false = true) := by
  rintro (loaded | fits)
  · exact loaded missing
  · exact Bool.false_ne_true (unfit.symm.trans fits)

theorem exec_beginCmd_effect {s t : State} (h : exec .beginCmd s = .next t) : BeginEffect s t := begin_effect s t h

/-- Settles O28: neither failure applies, so `begin_effect` leaves the success, whose platform is that of `ClaimsTo`. -/
theorem beginSucceeds : Obligations.BeginSucceeds := by
  unfold Obligations.BeginSucceeds
  intro s _ legal hwf uninit can
  obtain ⟨loadable, claimable⟩ := can
  obtain ⟨-, -, -, hblock, -⟩ := (cfg_wf_iff ..).1 legal
  obtain ⟨t, ht⟩ := exec_next .beginCmd s
  cases exec_beginCmd_effect ht with
  | violation held => exact absurd uninit held
  | noProgram _ missing unfit => exact absurd loadable (not_loadable missing unfit)
  | noSlot _ _ _ _ auto taken => simp [auto, taken] at claimable
  | success x y k d ch xfer _ loads chosen channel eq =>
    have claims : ClaimsTo s x y k ch xfer := channel
    have hx := loads.wf hwf
    have hk := chosen_slot_lt legal chosen
    subst eq
    refine ⟨_, k, ht, rfl, rfl, rfl, rfl, hk, claims.slotBit_held hx hblock hk, fun req => ?requested, fun auto => ?auto,
      ?program, fun off loaded => ?kept, rfl, rfl, fun noFree => ?noChannel, fun free => ?channel,
      fun b j => claims.slotBit_other loads, fun c => claims.chanBit_other loads, fun b hb => ?others,
      rfl, rfl, rfl, rfl, rfl, rfl, rfl⟩
    case requested => rcases chosen with ⟨-, rfl⟩ | ⟨auto, -⟩ <;> omega
    case auto =>
      rcases chosen with ⟨requested, -⟩ | ⟨-, free⟩
      · exact absurd auto requested
      · exact ((mem_freeSlots ..).1 free).2
    case program => simpa only [claims.program_eq] using loads.program_loaded legal hwf
    case kept => exact claims.prog_eq.trans (congrArg Plat.prog (loads.eq_of_loaded loaded))
    case noChannel =>
      rcases claims with ⟨-, -, none, same⟩ | ⟨c, free, -⟩
      · exact ⟨none, same⟩
      · simp [noFree] at free
    case channel =>
      rcases channel with ⟨noFree, -⟩ | ⟨c, -, -, is, -⟩
      · exact absurd noFree free
      · obtain ⟨hlt, hfree, claimed, conf⟩ := claims.channel_held hx is
        exact ⟨c, hlt, hfree, is, claimed, conf⟩
    case others => exact (claims.program_eq b).trans (loads.program_other hb)

/-- Settles O29: each failure is its own effect of `begin_effect`, and the success responds 1. -/
theorem beginFailsInTwoCases : Obligations.BeginFailsInTwoCases := by
  unfold Obligations.BeginFailsInTwoCases
  refine ⟨fun s uninit missing unfit => ?noProgram, fun s _ legal hwf uninit loadable auto taken => ?noSlot,
    fun s t uninit ht zero => ?converse⟩
  case noProgram =>
    obtain ⟨t, ht⟩ := exec_next .beginCmd s
    cases exec_beginCmd_effect ht with
    | violation held => exact absurd uninit held
    | noProgram _ _ _ eq =>
      rw [ht, eq]
      rfl
    | noSlot x _ _ loads | success x _ _ _ _ _ _ loads =>
      rcases loads with ⟨off, loaded, -⟩ | ⟨-, fits, -⟩
      · cases missing.symm.trans loaded
      · cases unfit.symm.trans fits
  case noSlot =>
    obtain ⟨t, ht⟩ := exec_next .beginCmd s
    cases exec_beginCmd_effect ht with
    | violation held => exact absurd uninit held
    | noProgram _ missing unfit => exact absurd loadable (not_loadable missing unfit)
    | success x y k _ _ _ _ _ chosen => simp [auto, taken] at chosen
    | noSlot x d _ loads _ _ eq =>
      obtain ⟨off, loaded⟩ := loads.program_loaded legal hwf
      subst eq
      refine ⟨_, off, ht, rfl, loaded, fun b hb => loads.program_other hb, fun o ho => ?_, ?_⟩
      · cases loaded.symm.trans (loads.keeps_program ho)
        rfl
      · rcases loads with ⟨_, -, rfl⟩ | ⟨-, -, _, rfl⟩ <;> rfl
  case converse =>
    cases exec_beginCmd_effect ht with
    | violation held => exact absurd uninit held
    | noProgram _ missing unfit => exact .inl ⟨missing, unfit⟩
    | noSlot _ _ _ _ auto taken => exact .inr ⟨auto, taken⟩
    | success _ _ _ _ _ _ _ _ _ _ eq =>
      subst eq
      exact absurd (show (1 : Word32) = 0 from zero) (by decide)

/-! ### END -/

/-- What END leaves of the platform: the channel and the slot held are free, and nothing else changes (R171). -/
structure ReleasesTo (s : State) (x : Plat) : Prop where
  chan_free : ∀ c, s.ch = .available c → x.chanBit c = false
  chan_other : ∀ c, s.ch ≠ .available c → x.chanBit c = s.plat.chanBit c
  slot_free : ∀ k, s.slot = some k → x.slotBit s.cfg.block k = false
  slot_other : ∀ b k, (b ≠ s.cfg.block ∨ s.slot ≠ some k) → x.slotBit b k = s.plat.slotBit b k
  prog : x.prog = s.plat.prog
  wf : ∀ p, s.plat.wf p = true → x.wf p = true

/-- What END leaves of a state that holds a slot, with the log it leaves and the platform as `ReleasesTo` says. -/
theorem end_released (s : State) :
    ∃ x log, (log = s.wire ∧ s.xfer.active = false ∧ s.fifo = [] ∨
        log = s.wire ++ [.abort] ∧ (s.xfer.active = true ∨ s.fifo ≠ [])) ∧ ReleasesTo s x ∧
      ((((s.logAbort.abortXfer.setFifo []).releaseChannel.releaseSlot).setEngine .uninitialized).respond 0) =
        { s with wire := log, xfer := ⟨false, 0, 0, s.xfer.conf⟩, fifo := [], ch := .unavailable, slot := none, plat := x,
                 st := .uninitialized, resp := 0, host := .idle } := by
  obtain ⟨x, log, hlog, plat, form⟩ := end_form s
  refine ⟨x, log, hlog, ?_, form⟩
  rcases plat with ⟨hc, hs, rfl⟩ | ⟨c, hc, hs, rfl⟩ | ⟨k, hc, hs, rfl⟩ | ⟨c, k, hc, hs, rfl⟩
  · constructor <;> simp [hc, hs]
  · refine ⟨fun d hd => ?_, fun d hd => ?_, by simp [hs], by simp, rfl, fun _ => setChan_wf _ _ _ _⟩
    · cases hc.symm.trans hd
      simp [setChan_chanBit]
    · have hne : d ≠ c := fun h => hd (h ▸ hc)
      simp [setChan_chanBit, hne]
  · refine ⟨by simp [hc], by simp, fun j hj => ?_, fun b j hb => ?_, rfl, fun _ => setSlot_wf _ _ _ _ _⟩
    · cases hs.symm.trans hj
      simp [setSlot_slotBit]
    · rw [setSlot_slotBit, if_neg]
      rintro ⟨rfl, rfl⟩
      simp [hs] at hb
  · refine ⟨fun d hd => ?_, fun d hd => ?_, fun j hj => ?_, fun b j hb => ?_, rfl,
      fun _ h => setSlot_wf _ _ _ _ _ (setChan_wf _ _ _ _ h)⟩
    · cases hc.symm.trans hd
      simp [setChan_chanBit]
    · have hne : d ≠ c := fun h => hd (h ▸ hc)
      simp [setChan_chanBit, hne]
    · cases hs.symm.trans hj
      simp [setSlot_slotBit]
    · rw [setSlot_slotBit, if_neg]
      · rfl
      · rintro ⟨rfl, rfl⟩
        simp [hs] at hb

/-- Settles O35: the state of `end_released`; it is uninitialised, so a second END only responds. -/
theorem endReleasesResources : Obligations.EndReleasesResources := by
  unfold Obligations.EndReleasesResources
  refine ⟨by decide, fun s uninit => exec_endCmd_of_uninit uninit, fun s held => ?_⟩
  obtain ⟨x, log, hlog, released, form⟩ := end_released s
  rw [exec_endCmd, if_neg held, form]
  refine ⟨_, rfl, rfl, rfl, rfl, rfl, rfl, rfl, rfl, rfl, rfl, fun unsent => ?_, fun inactive empty => ?_,
    released.chan_free, released.chan_other, released.slot_free, released.slot_other, released.prog, rfl, rfl, rfl, rfl, rfl,
    rfl, rfl, exec_endCmd_of_uninit rfl⟩
  · rcases hlog with ⟨-, inactive, empty⟩ | ⟨eq, -⟩
    · simp [inactive, empty] at unsent
    · exact eq
  · rcases hlog with ⟨eq, -⟩ | ⟨-, unsent⟩
    · exact eq
    · simp [inactive, empty] at unsent

/-! ### Programs stay loaded -/

/-- No command moves or unloads a program: only BEGIN writes one, and only where there is none. -/
theorem CommandEffect.keeps_program {i : Instr} {s t : State} (effect : CommandEffect i s t) {b off : Nat}
    (loaded : s.plat.program b = .loaded off) : t.plat.program b = .loaded off := by
  cases effect with
  | begins _ effect =>
    cases effect with
    | violation _ eq | noProgram _ _ _ eq => exact eq ▸ loaded
    | noSlot x d _ loads _ _ eq => exact eq ▸ loads.keeps_program loaded
    | success x y k d ch xfer _ loads _ channel eq =>
      have claims : ClaimsTo s x y k ch xfer := channel
      subst eq
      exact (claims.program_eq b).trans (loads.keeps_program loaded)
  | ends _ _ eq =>
    obtain ⟨x, log, -, released, form⟩ := end_released s
    rw [eq, form]
    exact (congrArg (·.getD b .notLoaded) released.prog).trans loaded
  | pixel idx p _ _ eq =>
    obtain ⟨q, -, form⟩ := paintPixel_form s idx p
    rw [eq, form]
    exact loaded
  | misuse _ _ eq | fill _ _ _ eq | brightness _ _ eq | gamma _ _ eq | frameNoSlot _ _ eq | frameBusy _ _ _ eq
  | showChannel _ _ _ _ _ eq | asyncChannel _ _ _ _ _ eq | framePush _ _ _ _ _ eq | busy _ eq | waitNothing _ _ eq
  | waits _ _ eq | endNothing _ _ eq | size _ eq => exact eq ▸ loaded

/-- No agent's step but the acceptance of a command touches the platform or what is held of it. -/
theorem TurnEffect.holdings {a : Agent} {s t : State} (effect : TurnEffect a s t) :
    t.plat = s.plat ∧ t.slot = s.slot ∧ t.ch = s.ch ∨
      ∃ cw rest i, s.port = cw :: rest ∧ decode cw = .ok i ∧ CommandEffect i (s.setPort rest) t := by
  cases effect with
  | command cw rest i _ _ port legal effect => exact .inr ⟨cw, rest, i, port, legal, effect⟩
  | pushWord i k w _ _ _ _ eq =>
    obtain ⟨st, host, resp, form⟩ := pushed_form s i k w
    rw [form] at eq
    subst eq
    exact .inl ⟨rfl, rfl, rfl⟩
  | xferMove w _ active _ _ eq =>
    rw [moveWord_of_active active] at eq
    subst eq
    exact .inl ⟨rfl, rfl, rfl⟩
  | stutter eq | reserved _ _ _ _ _ _ _ eq | waitXferDone _ _ _ eq | latchDone _ _ _ eq | shiftWord _ _ _ _ _ _ eq
  | idleGap _ _ _ _ _ eq =>
    subst eq
    exact .inl ⟨rfl, rfl, rfl⟩

/-- Settles O30: only the acceptance of a command touches the platform, and no command moves a program. -/
theorem programNeverUnloaded : Obligations.ProgramNeverUnloaded := by
  unfold Obligations.ProgramNeverUnloaded
  intro s t blk off h loaded
  rcases (step_effect s t h).2.holdings with ⟨same, -⟩ | ⟨cw, rest, i, -, -, effect⟩
  · rw [same]
    exact loaded
  · exact effect.keeps_program loaded

/-! ### The frame of the engine commands -/

/-- What BEGIN leaves alone, and which claims and programs it may change. -/
theorem BeginEffect.frame {s t : State} (effect : BeginEffect s t) :
    ∃ plat slot te fifo ch xfer pb st resp host draws fault,
      t = { s with plat := plat, slot := slot, te := te, fifo := fifo, ch := ch, xfer := xfer, pb := pb, st := st, resp := resp,
                   host := host, draws := draws, fault := fault } ∧
      (∀ b k, (b ≠ s.cfg.block ∨ slot ≠ some k) → plat.slotBit b k = s.plat.slotBit b k) ∧
      (∀ c, ch ≠ .available c → plat.chanBit c = s.plat.chanBit c) ∧
      ∀ b, b ≠ s.cfg.block → plat.program b = s.plat.program b := by
  cases effect with
  | violation _ eq | noProgram _ _ _ eq =>
    exact ⟨_, _, _, _, _, _, _, _, _, _, _, _, eq, fun _ _ _ => rfl, fun _ _ => rfl, fun _ _ => rfl⟩
  | noSlot x d _ loads _ _ eq =>
    exact ⟨_, _, _, _, _, _, _, _, _, _, _, _, eq, fun b k _ => loads.slotBit_eq b k, fun c _ => loads.chanBit_eq c,
      fun b => loads.program_other⟩
  | success x y k d ch xfer _ loads _ channel eq =>
    have claims : ClaimsTo s x y k ch xfer := channel
    refine ⟨_, _, _, _, _, _, _, _, _, _, _, _, eq, fun b j other => claims.slotBit_other loads (other.imp id ?_),
      fun c => claims.chanBit_other loads, fun b hb => (claims.program_eq b).trans (loads.program_other hb)⟩
    exact fun hne hj => hne (hj ▸ rfl)

/-- What SHOW, SHOWASYNC, BUSY and WAIT leave alone: they write `SB`, `XFER`, `ST`, `RESP`, the host's phase and `FAULT` at most,
and the last two only `RESP` and the phase. -/
theorem frameCommand_writes {i : Instr} {s t : State} (hi : i ∈ [Instr.showCmd, .showasync, .busy, .wait])
    (h : exec i s = .next t) :
    ∃ sb xfer st resp host fault,
      t = { s with sb := sb, xfer := xfer, st := st, resp := resp, host := host, fault := fault } ∧
      (i = .busy ∨ i = .wait → sb = s.sb ∧ xfer = s.xfer ∧ st = s.st ∧ fault = s.fault) := by
  have shows : i = .showCmd ∨ i = .showasync → ¬(i = .busy ∨ i = .wait) := by rintro (rfl | rfl) <;> simp
  cases exec_effect i s t h with
  | frameNoSlot is _ eq | frameBusy is _ _ eq => exact ⟨_, _, _, _, _, _, eq, fun other => absurd other (shows is)⟩
  | showChannel _ is _ _ _ eq => exact ⟨_, _, _, _, _, _, eq, fun other => absurd other (shows (.inl is))⟩
  | asyncChannel _ is _ _ _ eq => exact ⟨_, _, _, _, _, _, eq, fun other => absurd other (shows (.inr is))⟩
  | framePush _ is _ _ _ eq =>
    exact ⟨_, _, _, _, _, _, eq, fun other => absurd other (shows (is.imp And.left And.left))⟩
  | busy _ eq | waitNothing _ _ eq | waits _ _ eq => exact ⟨_, _, _, _, _, _, eq, fun _ => ⟨rfl, rfl, rfl, rfl⟩⟩
  | misuse _ is | fill _ _ is | pixel _ _ _ is =>
    simp only [List.mem_cons, List.not_mem_nil, or_false] at hi
    rcases hi with rfl | rfl | rfl | rfl <;> exact absurd is (by decide)
  | brightness _ is | gamma _ is | begins is | endNothing is | ends is | size is => simp [is] at hi

/-- END writes `WIRE`, `XFER`, `FIFO`, `CH`, `SLOT`, `PLAT`, `ST`, `RESP` and the host's phase at most, and of the platform no
program. -/
theorem endCmd_writes {s t : State} (h : exec .endCmd s = .next t) :
    ∃ wire xfer fifo ch slot plat st resp host,
      t = { s with wire := wire, xfer := xfer, fifo := fifo, ch := ch, slot := slot, plat := plat, st := st, resp := resp,
                   host := host } ∧ plat.prog = s.plat.prog := by
  rw [exec_endCmd] at h
  split at h
  · cases h
    exact ⟨_, _, _, _, _, _, _, _, _, rfl, rfl⟩
  · obtain ⟨x, log, -, released, form⟩ := end_released s
    rw [form] at h
    cases h
    exact ⟨_, _, _, _, _, _, _, _, _, rfl, released.prog⟩

/-- Settles O36: the writes of BEGIN, of END, and of the four commands between. -/
theorem engineCommandsFrame : Obligations.EngineCommandsFrame := by
  unfold Obligations.EngineCommandsFrame
  intro i s t hi h
  have kinds : i = .beginCmd ∨ i = .endCmd ∨ i ∈ [Instr.showCmd, .showasync, .busy, .wait] := by
    cases i <;> simp [Instr.mnemonic] at hi ⊢
  rcases kinds with rfl | rfl | kind
  · obtain ⟨plat, slot, te, fifo, ch, xfer, pb, st, resp, host, draws, fault, rfl, slots, chans, progs⟩ :=
      (exec_beginCmd_effect h).frame
    exact ⟨rfl, rfl, rfl, rfl, rfl, fun _ => rfl, rfl, rfl, rfl, fun no => absurd rfl no, fun _ => rfl,
      fun _ _ => ⟨rfl, fun _ => rfl⟩, fun no => absurd rfl no, fun _ => ⟨slots, chans, progs⟩, by simp⟩
  · obtain ⟨wire, xfer, fifo, ch, slot, plat, st, resp, host, rfl, prog⟩ := endCmd_writes h
    exact ⟨rfl, rfl, rfl, rfl, rfl, fun _ => rfl, rfl, rfl, rfl, fun _ => ⟨rfl, fun _ => rfl, rfl, rfl, prog⟩,
      fun no => absurd rfl no, fun _ _ => ⟨rfl, fun _ => rfl⟩, fun _ no => absurd rfl no, by simp, by simp⟩
  · obtain ⟨sb, xfer, st, resp, host, fault, rfl, waits⟩ := frameCommand_writes kind h
    refine ⟨rfl, rfl, rfl, rfl, rfl, fun _ => rfl, rfl, rfl, rfl, fun _ => ⟨rfl, fun _ => rfl, rfl, rfl, rfl⟩,
      fun _ => rfl, fun noShow noAsync => ?_, fun _ _ => ⟨rfl, rfl, rfl, rfl⟩, fun is => ?_, fun is => (waits is).2⟩
    · obtain ⟨same, -⟩ := waits (by simpa [noShow, noAsync] using kind)
      exact ⟨same, fun j => congrArg (·[j]?) same⟩
    · simp [is] at kind

end Sys2Proof.Machine
end

section
/-! SUPPORT. The invariant of 10_state.md R44 through every update that a step makes, the obligations that construction meets it and
that every step keeps it, and two that rest on it: the engine state's transitions (R27) and the queue's growth (R197). -/

namespace Sys2Proof.Machine

open Sys2Proof.Safety

/-! ### Updates of fields the invariant does not read, and of one field alone -/

/-- The invariant does not read the inputs, the response, the fault record, the brightness or the count of draws. -/
theorem inv_unread {s : State} (inv : StateInv s) (port : List Cmd) (sched : List Agent) (turn draws : Nat) (resp : Word32)
    (fault : Option Fault) (bri : Byte) :
    StateInv { s with port := port, sched := sched, turn := turn, draws := draws, resp := resp, fault := fault, bri := bri } :=
  { inv with }

theorem inv_takeTurn {s : State} (inv : StateInv s) : StateInv s.takeTurn :=
  inv_unread inv s.port s.sched.tail (s.turn + 1) s.draws s.resp s.fault s.bri

theorem inv_setPort {s : State} (inv : StateInv s) (rest : List Cmd) : StateInv (s.setPort rest) :=
  inv_unread inv rest s.sched s.turn s.draws s.resp s.fault s.bri

theorem inv_withFault {s : State} (inv : StateInv s) (f : Fault) : StateInv (s.withFault f) :=
  inv_unread inv s.port s.sched s.turn s.draws s.resp (some f) s.bri

theorem inv_setBri {s : State} (inv : StateInv s) (b : Byte) : StateInv (s.setBri b) :=
  inv_unread inv s.port s.sched s.turn s.draws s.resp s.fault b

/-- A response of an idle host. -/
theorem inv_respond_of_idle {s : State} (inv : StateInv s) (idle : s.host = .idle) (v : Word32) : StateInv (s.respond v) := by
  rw [respond_of_idle idle]
  exact inv_unread inv s.port s.sched s.turn s.draws v s.fault s.bri

theorem inv_setPB {s : State} (inv : StateInv s) (q : List Pixel) (len : q.length = s.pb.length) :
    StateInv { s with pb := q } := by
  obtain ⟨hpb, hsb, hfifo⟩ := (memory_wf_iff s).1 inv.storage
  exact { inv with storage := (memory_wf_iff _).2 ⟨len.trans hpb, hsb, hfifo⟩ }

theorem inv_setGamma {s : State} (inv : StateInv s) (on : Bool) : StateInv (s.setGamma on) :=
  { inv with gamma := rfl }

/-- R34: an event that fits the strip's width. -/
theorem inv_logWire {s : State} (inv : StateInv s) (e : Event)
    (fits : ∀ v w, e = .word v w → w = s.cfg.width ∧ v.toNat < 2 ^ w.bits) : StateInv (s.logWire e) := by
  refine { inv with wire_words := fun v w hm => ?_ }
  rcases List.mem_append.1 hm with old | new
  · exact inv.wire_words v w old
  · exact fits v w (List.mem_singleton.1 new).symm

/-- A queue within its depth, of a state that holds a slot. -/
theorem inv_setFifo {s : State} (inv : StateInv s) (q : List Word32) (held : s.st ≠ .uninitialized)
    (depth : q.length ≤ s.par.fifoDepth) : StateInv (s.setFifo q) := by
  obtain ⟨hpb, hsb, -⟩ := (memory_wf_iff s).1 inv.storage
  exact { inv with
    storage := (memory_wf_iff _).2 ⟨hpb, hsb, depth⟩
    uninit := fun uninit => absurd uninit held }

/-- A change of phase in which neither is a push, of a state that holds a slot. -/
theorem inv_setPhase {s : State} (inv : StateInv s) (p : Phase) (held : s.st ≠ .uninitialized)
    (before : ∀ i k, s.host ≠ .pushing i k) (after : ∀ i k, p ≠ .pushing i k)
    (active : s.xfer.active = true → p = .idle ∨ p = .waitXfer) : StateInv (s.setPhase p) :=
  { inv with
    uninit := fun uninit => absurd uninit held
    active := fun h => by
      obtain ⟨ch, rem, sum, -⟩ := inv.active h
      exact ⟨ch, rem, sum, active h⟩
    pushing := fun i k h => absurd h (after i k)
    transmitting := by
      have sending := inv.transmitting
      simp only [before, exists_false, or_false] at sending
      simpa [after] using sending }

/-! ### Consequences of the invariant -/

/-- R21, R45: the pixel count fits the counters. -/
theorem inv_pixelCount {s : State} (inv : StateInv s) : 1 ≤ s.cfg.n ∧ s.cfg.n < 2 ^ 24 := by
  obtain ⟨-, legal, -⟩ := inv.legal
  obtain ⟨hlow, hhigh, -⟩ := (cfg_wf_iff ..).1 legal
  omega

theorem held_of_slot {s : State} (inv : StateInv s) {k : Nat} (slot : s.slot = some k) : s.st ≠ .uninitialized := fun uninit => by
  cases (inv.slot_none.1 uninit).symm.trans slot

theorem transmitting_of_active {s : State} (inv : StateInv s) (active : s.xfer.active = true) : s.st = .transmitting :=
  inv.transmitting.2 (.inl active)

theorem transmitting_of_pushing {s : State} (inv : StateInv s) {i : Idx} {k : AfterPush} (held : s.host = .pushing i k) :
    s.st = .transmitting :=
  inv.transmitting.2 (.inr ⟨i, k, held⟩)

/-- R44 (b): a host held in a command holds a slot. -/
theorem held_of_host {s : State} (inv : StateInv s) (host : s.host ≠ .idle) : s.st ≠ .uninitialized := fun uninit =>
  host (inv.uninit uninit).2.2.2

/-- R27: while the engine is ready no transfer is active. -/
theorem inactive_of_ready {s : State} (inv : StateInv s) (ready : s.st = .ready) : s.xfer.active = false :=
  Bool.eq_false_iff.2 fun active => by cases ready.symm.trans (transmitting_of_active inv active)

/-- R44 (e): without a channel no transfer is active. -/
theorem inactive_of_channel_done {s : State} (inv : StateInv s) (done : s.ch = .unavailable ∨ s.xfer.active = false) :
    s.xfer.active = false := by
  rcases done with none | inactive
  · refine Bool.eq_false_iff.2 fun active => ?_
    obtain ⟨⟨c, ch⟩, -⟩ := inv.active active
    cases none.symm.trans ch
  · exact inactive

/-- R44 (e), (f): the channel and the host do not send together. -/
theorem not_pushing_of_active {s : State} (inv : StateInv s) (active : s.xfer.active = true) (i : Idx) (k : AfterPush) :
    s.host ≠ .pushing i k := fun host => by
  obtain ⟨-, inactive, -⟩ := inv.pushing i k host
  cases inactive.symm.trans active

theorem ready_of_idle {s : State} (inv : StateInv s) (held : s.st ≠ .uninitialized) (idle : s.host = .idle)
    (inactive : s.xfer.active = false) : s.st = .ready := by
  have notSending := (transmitting_iff_active inv idle).not.2 (Bool.eq_false_iff.1 inactive)
  cases st : s.st with
  | uninitialized => exact absurd st held
  | ready => rfl
  | transmitting => exact absurd st notSending

/-! ### The start of a frame -/

/-- The channel is started: `CFG.N` words from index 0, with the host idle or waiting. -/
theorem inv_startXfer {s : State} (inv : StateInv s) (held : s.st ≠ .uninitialized) {c : Nat} (ch : s.ch = .available c)
    (p : Phase) (phase : p = .idle ∨ p = .waitXfer) :
    StateInv ((s.encodeFrame.setEngine .transmitting).startXfer.setPhase p) := by
  obtain ⟨hlow, hhigh⟩ := inv_pixelCount inv
  have count : (BitVec.ofNat 24 s.cfg.n).toNat = s.cfg.n := by
    rw [BitVec.toNat_ofNat, Nat.mod_eq_of_lt hhigh]
  have noPush : ∀ i k, p ≠ .pushing i k := by rintro i k rfl; simp at phase
  exact { inv with
    storage := encodeFrame_memory_wf s inv.storage
    slot_none := ⟨nofun, fun none => absurd (inv.slot_none.2 none) held⟩
    uninit := nofun
    active := fun _ => ⟨⟨c, ch⟩, count.symm ▸ hlow, (Nat.zero_add _).trans count, phase⟩
    pushing := fun i k h => absurd h (noPush i k)
    transmitting := ⟨fun _ => .inl rfl, fun _ => rfl⟩ }

/-- The host pushes from index 0. -/
theorem inv_startPush {s : State} (inv : StateInv s) (held : s.st ≠ .uninitialized) (inactive : s.xfer.active = false)
    (ch : s.ch = .unavailable) (k : AfterPush) :
    StateInv ((s.encodeFrame.setEngine .transmitting).setPhase (.pushing 0 k)) := by
  obtain ⟨hlow, -⟩ := inv_pixelCount inv
  exact { inv with
    storage := encodeFrame_memory_wf s inv.storage
    slot_none := ⟨nofun, fun none => absurd (inv.slot_none.2 none) held⟩
    uninit := nofun
    active := fun active => absurd active (Bool.eq_false_iff.1 inactive)
    pushing := fun i j h => by
      cases h
      exact ⟨ch, inactive, hlow⟩
    transmitting := ⟨fun _ => .inr ⟨0, k, rfl⟩, fun _ => rfl⟩ }

/-! ### BEGIN and END -/

theorem inv_begin {s t : State} (inv : StateInv s) (effect : BeginEffect s t) : StateInv t := by
  obtain ⟨hpar, legal, hwf⟩ := inv.legal
  obtain ⟨-, hsb, -⟩ := (memory_wf_iff s).1 inv.storage
  cases effect with
  | violation _ eq => exact eq ▸ inv_withFault inv _
  | noProgram uninit _ _ eq => exact eq ▸ inv_respond_of_idle inv (inv.uninit uninit).2.2.2 0
  | noSlot x d uninit loads _ _ eq =>
    obtain ⟨ch, inactive, empty, idle⟩ := inv.uninit uninit
    subst eq
    have plat : StateInv { s with plat := x } := { inv with
      legal := ⟨hpar, legal, loads.wf hwf⟩
      slot_held := fun k slot => absurd uninit (held_of_slot inv slot)
      chan_held := fun c held => by cases ch.symm.trans held }
    exact inv_unread (inv_respond_of_idle plat idle 0) s.port s.sched s.turn d 0 s.fault s.bri
  | success x y k d ch xfer uninit loads chosen channel eq =>
    have claims : ClaimsTo s x y k ch xfer := channel
    have hx := loads.wf hwf
    have hk := chosen_slot_lt legal chosen
    obtain ⟨-, -, -, hblock, -⟩ := (cfg_wf_iff ..).1 legal
    have inactive : xfer.active = false := by
      rcases channel with ⟨-, -, -, rfl⟩ | ⟨-, -, -, -, rfl⟩
      · exact (inv.uninit uninit).2.1
      · rfl
    subst eq
    exact { inv with
      legal := ⟨hpar, legal, claims.wf hx⟩
      storage := (memory_wf_iff _).2 ⟨List.length_replicate, hsb, Nat.zero_le _⟩
      slot_none := ⟨nofun, nofun⟩
      uninit := nofun
      slot_held := fun j hj => by
        cases hj
        obtain ⟨off, loaded⟩ := loads.program_loaded legal hwf
        exact ⟨hk, claims.slotBit_held hx hblock hk, off, (claims.program_eq _).trans loaded⟩
      chan_held := fun c held => by
        obtain ⟨hlt, -, claimed, -⟩ := claims.channel_held hx held
        exact ⟨hlt, claimed⟩
      active := fun active => absurd active (Bool.eq_false_iff.1 inactive)
      pushing := nofun
      transmitting := by simp [inactive]
      slot_configured := fun _ => rfl
      chan_configured := fun c held => by
        obtain ⟨-, -, -, conf⟩ := claims.channel_held hx held
        exact congrArg Xfer.conf conf }

theorem inv_end {s : State} (inv : StateInv s) :
    StateInv ((((s.logAbort.abortXfer.setFifo []).releaseChannel.releaseSlot).setEngine .uninitialized).respond 0) := by
  obtain ⟨hpar, legal, hwf⟩ := inv.legal
  obtain ⟨hpb, hsb, -⟩ := (memory_wf_iff s).1 inv.storage
  obtain ⟨x, log, hlog, released, form⟩ := end_released s
  rw [form]
  exact { inv with
    legal := ⟨hpar, legal, released.wf _ hwf⟩
    storage := (memory_wf_iff _).2 ⟨hpb, hsb, Nat.zero_le _⟩
    slot_none := ⟨fun _ => rfl, fun _ => rfl⟩
    uninit := fun _ => ⟨rfl, rfl, rfl, rfl⟩
    slot_held := nofun
    chan_held := nofun
    active := nofun
    pushing := nofun
    transmitting := by simp
    wire_words := fun v w hm => by
      rcases hlog with ⟨rfl, -⟩ | ⟨rfl, -⟩
      · exact inv.wire_words v w hm
      · exact inv.wire_words v w (by simpa using hm)
    slot_configured := fun held => absurd rfl held
    chan_configured := nofun }

/-! ### The words of a frame -/

/-- A word moved by the channel: the index and the count keep their sum, and the last word ends the transfer. -/
theorem inv_moveWord {s : State} (inv : StateInv s) (active : s.xfer.active = true)
    (room : s.fifo.length < s.par.fifoDepth) (w : Word32) : StateInv (s.moveWord w) := by
  obtain ⟨hpb, hsb, -⟩ := (memory_wf_iff s).1 inv.storage
  obtain ⟨-, hhigh⟩ := inv_pixelCount inv
  obtain ⟨ch, rem, sum, phase⟩ := inv.active active
  have sending := transmitting_of_active inv active
  have held : s.st ≠ .uninitialized := by simp [sending]
  have noPush := not_pushing_of_active inv active
  have left : (s.xfer.rem - 1).toNat = s.xfer.rem.toNat - 1 := by bv_omega
  have next : (s.xfer.rptr + 1).toNat = s.xfer.rptr.toNat + 1 := by bv_omega
  have depth : (s.fifo ++ [w]).length ≤ s.par.fifoDepth := by simpa using room
  rw [moveWord_of_active active]
  by_cases last : s.xfer.rem - 1 = 0
  · simp only [if_pos last, decide_eq_true last, Bool.not_true]
    exact { inv with
      storage := (memory_wf_iff _).2 ⟨hpb, hsb, depth⟩
      slot_none := ⟨nofun, fun none => absurd (inv.slot_none.2 none) held⟩
      uninit := nofun
      active := nofun
      pushing := fun i k h => absurd h (noPush i k)
      transmitting := by simp [noPush] }
  · have more : 1 ≤ (s.xfer.rem - 1).toNat := by bv_omega
    simp only [if_neg last, decide_eq_false last, Bool.not_false]
    exact { inv with
      storage := (memory_wf_iff _).2 ⟨hpb, hsb, depth⟩
      uninit := fun uninit => absurd uninit held
      active := fun _ => ⟨ch, more, by rw [← sum]; simp only [left, next]; omega, phase⟩
      pushing := fun i k h => absurd h (noPush i k)
      transmitting := ⟨fun _ => .inl rfl, fun _ => sending⟩ }

/-- A word pushed by the host: the index stays below `CFG.N`, and the last word makes the engine ready. -/
theorem inv_pushed {s : State} (inv : StateInv s) {i : Idx} {k : AfterPush} (host : s.host = .pushing i k)
    (room : s.fifo.length < s.par.fifoDepth) (w : Word32) : StateInv (s.pushed i k w) := by
  obtain ⟨hpb, hsb, -⟩ := (memory_wf_iff s).1 inv.storage
  obtain ⟨-, hhigh⟩ := inv_pixelCount inv
  obtain ⟨ch, inactive, hi⟩ := inv.pushing i k host
  have sending := transmitting_of_pushing inv host
  have held : s.st ≠ .uninitialized := by simp [sending]
  have queued : StateInv (s.pushFifo w) := inv_setFifo inv (s.fifo ++ [w]) held (by simpa using room)
  rw [pushed_eq]
  split
  · next more =>
    exact { queued with
      uninit := fun uninit => absurd uninit held
      active := fun active => absurd active (Bool.eq_false_iff.1 inactive)
      pushing := fun j l h => by
        cases h
        have next : (i + 1).toNat < s.cfg.n := by bv_omega
        exact ⟨ch, inactive, next⟩
      transmitting := ⟨fun _ => .inr ⟨_, _, rfl⟩, fun _ => sending⟩ }
  · have ready : StateInv (((s.pushFifo w).setEngine .ready).setPhase .latchWait) := { queued with
      slot_none := ⟨nofun, fun none => absurd (inv.slot_none.2 none) held⟩
      uninit := nofun
      active := fun active => absurd active (Bool.eq_false_iff.1 inactive)
      pushing := nofun
      transmitting := by simp [inactive] }
    cases k with
    | thenLatch => exact ready
    | thenReturn =>
      have idle := inv_setPhase ready .idle (by simp) (by simp) (by simp) (fun _ => .inl rfl)
      exact inv_unread idle s.port s.sched s.turn s.draws 0 s.fault s.bri

/-- The top bits of a queue word fit the width they are taken for (R34, R195). -/
theorem topBits_lt (w : Word32) (n : Width) : (topBits w n).toNat < 2 ^ n.bits := by
  have := w.isLt
  cases n with
  | w24 =>
    simp only [topBits, Width.bits, BitVec.toNat_ushiftRight, Nat.shiftRight_eq_div_pow]
    omega
  | w32 => simpa [topBits, Width.bits] using this

/-- A word shifted onto the wire. -/
theorem inv_shiftWord {s : State} (inv : StateInv s) {k : Nat} (slot : s.slot = some k) {w : Word32} {q : List Word32}
    (queue : s.fifo = w :: q) : StateInv ((s.setFifo q).logWire (.word (topBits w s.te.width) s.te.width)) := by
  obtain ⟨-, -, hfifo⟩ := (memory_wf_iff s).1 inv.storage
  rw [queue, List.length_cons] at hfifo
  have width : s.te.width = s.cfg.width := by rw [inv.slot_configured (by simp [slot])]
  refine inv_logWire (inv_setFifo inv q (held_of_slot inv slot) (by omega)) _ fun v n h => ?_
  cases h
  exact ⟨width, topBits_lt w s.te.width⟩

/-! ### Every command, every turn, every step -/

theorem inv_command {i : Instr} {s t : State} (inv : StateInv s) (idle : s.host = .idle) (effect : CommandEffect i s t) :
    StateInv t := by
  have noPush : ∀ i k, s.host ≠ .pushing i k := by simp [idle]
  cases effect with
  | misuse _ _ eq | frameNoSlot _ _ eq | frameBusy _ _ _ eq => exact eq ▸ inv_withFault inv _
  | fill p _ _ eq =>
    obtain ⟨hpb, -⟩ := (memory_wf_iff s).1 inv.storage
    have filled : StateInv (s.fillPB p) := inv_setPB inv _ (by simp [hpb])
    exact eq ▸ inv_respond_of_idle filled idle 0
  | pixel idx p _ _ eq =>
    obtain ⟨q, len, form⟩ := paintPixel_form s idx p
    rw [form] at eq
    exact eq ▸ inv_respond_of_idle (inv_setPB inv q len) idle 0
  | brightness b _ eq => exact eq ▸ inv_respond_of_idle (inv_setBri inv b) idle 0
  | gamma on _ eq => exact eq ▸ inv_respond_of_idle (inv_setGamma inv on) idle 0
  | begins _ effect => exact inv_begin inv effect
  | showChannel c _ held _ ch eq => exact eq ▸ inv_startXfer inv held ch .waitXfer (.inr rfl)
  | asyncChannel c _ held _ ch eq =>
    exact eq ▸ inv_respond_of_idle (inv_startXfer inv held ch .idle (.inl rfl)) rfl 0
  | framePush k _ held inactive ch eq => exact eq ▸ inv_startPush inv held inactive ch k
  | busy _ eq | waitNothing _ _ eq | endNothing _ _ eq | size _ eq => exact eq ▸ inv_respond_of_idle inv idle _
  | waits _ held eq => exact eq ▸ inv_setPhase inv .waitXfer held noPush (by simp) (fun _ => .inr rfl)
  | ends _ _ eq => exact eq ▸ inv_end inv

theorem inv_turn {a : Agent} {s t : State} (inv : StateInv s) (effect : TurnEffect a s t) : StateInv t := by
  cases effect with
  | stutter eq => exact eq ▸ inv
  | command cw rest i _ idle _ _ effect => exact inv_command (inv_setPort inv rest) idle effect
  | reserved cw rest _ _ _ _ _ eq => exact eq ▸ inv_withFault (inv_setPort inv rest) _
  | waitXferDone _ held ready eq =>
    have inactive := inactive_of_channel_done inv ready
    exact eq ▸ inv_setPhase inv .latchWait (held_of_host inv (by simp [held])) (by simp [held]) (by simp)
      (fun active => absurd active (Bool.eq_false_iff.1 inactive))
  | pushWord i k w _ held room _ eq => exact eq ▸ inv_pushed inv held room w
  | latchDone _ held _ eq =>
    have idle := inv_setPhase inv .idle (held_of_host inv (by simp [held])) (by simp [held]) (by simp) (fun _ => .inl rfl)
    exact eq ▸ inv_respond_of_idle (inv_logWire idle .latch nofun) rfl 0
  | xferMove w _ active room _ eq => exact eq ▸ inv_moveWord inv active room w
  | shiftWord k w q _ slot queue eq => exact eq ▸ inv_shiftWord inv slot queue
  | idleGap _ _ _ _ _ eq => exact eq ▸ inv_logWire inv .latch nofun

/-- Settles O50: the turn is taken from the inputs, which the invariant does not read, and every effect of a turn keeps it. -/
theorem stepKeepsInvariant : Obligations.StepKeepsInvariant := by
  unfold Obligations.StepKeepsInvariant
  intro s t inv h
  exact inv_turn (inv_takeTurn inv) (step_effect s t h).2

/-- A legal construction meets the invariant: nothing is held and nothing is sent. -/
theorem inv_constructed {cfg : Cfg} {par : Params} {plat : Plat} {pb : List Pixel} {sb : List Word32} (te : TimingEngine)
    (legal : legalConstruction cfg par plat pb sb = true) : StateInv (State.constructed cfg par plat pb sb te) := by
  obtain ⟨hpar, hcfg, hplat, hpb, hsb⟩ := (legalConstruction_iff ..).1 legal
  exact {
    legal := ⟨hpar, hcfg, hplat⟩
    storage := (memory_wf_iff _).2 ⟨hpb, hsb, Nat.zero_le _⟩
    gamma := rfl
    slot_none := ⟨fun _ => rfl, fun _ => rfl⟩
    uninit := fun _ => ⟨rfl, rfl, rfl, rfl⟩
    slot_held := nofun
    chan_held := nofun
    active := nofun
    pushing := nofun
    transmitting := by simp [State.constructed, Xfer.reset]
    wire_words := nofun
    slot_configured := fun held => absurd rfl held
    chan_configured := nofun }

/-- Settles O49: what is constructed is legal, and the arguments of `State.reset` are. -/
theorem constructionMeetsInvariant : Obligations.ConstructionMeetsInvariant := by
  unfold Obligations.ConstructionMeetsInvariant
  refine ⟨fun cfg par plat pb sb te s h => ?_, inv_constructed _ (by decide)⟩
  obtain ⟨legal, rfl⟩ := (construct_eq_some_iff ..).1 h
  exact inv_constructed te legal

/-! ### The engine state (R27) -/

/-- What a command does to `ST` in a ready state: BEGIN, SHOW, SHOWASYNC and END change it, and no other. -/
theorem CommandEffect.st_changes {i : Instr} {s t : State} (effect : CommandEffect i s t) (changed : t.st ≠ s.st) :
    (s.st = .uninitialized ∧ t.st = .ready ∧ t.resp = 1 ∧ i = .beginCmd) ∨
    (s.st ≠ .uninitialized ∧ s.xfer.active = false ∧ t.st = .transmitting ∧ (i = .showCmd ∨ i = .showasync)) ∨
    (t.st = .uninitialized ∧ i = .endCmd) := by
  cases effect with
  | begins is effect =>
    cases effect with
    | success x y k d ch xfer uninit _ _ _ eq => exact .inl ⟨uninit, eq ▸ rfl, eq ▸ rfl, is⟩
    | violation _ eq | noProgram _ _ _ eq | noSlot _ _ _ _ _ _ eq => exact absurd (eq ▸ rfl) changed
  | showChannel c is held inactive _ eq => exact .inr (.inl ⟨held, inactive, eq ▸ rfl, .inl is⟩)
  | asyncChannel c is held inactive _ eq => exact .inr (.inl ⟨held, inactive, eq ▸ rfl, .inr is⟩)
  | framePush k is held inactive _ eq =>
    exact .inr (.inl ⟨held, inactive, eq ▸ rfl, is.imp And.left And.left⟩)
  | ends is _ eq => exact .inr (.inr ⟨eq ▸ rfl, is⟩)
  | pixel idx p _ _ eq =>
    obtain ⟨q, -, form⟩ := paintPixel_form s idx p
    rw [form] at eq
    exact absurd (eq ▸ rfl) changed
  | misuse _ _ eq | fill _ _ _ eq | brightness _ _ eq | gamma _ _ eq | frameNoSlot _ _ eq | frameBusy _ _ _ eq | busy _ eq
  | waitNothing _ _ eq | waits _ _ eq | endNothing _ _ eq | size _ eq => exact absurd (eq ▸ rfl) changed

/-- Settles O46: a command changes `ST` as in `CommandEffect.st_changes`, and the agents do with a frame's last word only. -/
theorem engineStateTransitions : Obligations.EngineStateTransitions := by
  unfold Obligations.EngineStateTransitions
  intro s t inv h changed
  cases (step_effect s t h).2 with
  | command cw rest i _ idle port legal effect =>
    rcases effect.st_changes changed with ⟨uninit, ready, resp, rfl⟩ | ⟨held, inactive, sending, is⟩ | ⟨uninit, rfl⟩
    · exact .inl ⟨uninit, ready, resp, cw, rest, port, legal⟩
    · refine .inr (.inl ⟨ready_of_idle inv held idle inactive, sending, cw, rest, port, ?_⟩)
      rcases is with rfl | rfl
      · exact .inl legal
      · exact .inr legal
    · exact .inr (.inr (.inr (.inr ⟨uninit, cw, rest, port, legal⟩)))
  | xferMove w moves active _ _ eq =>
    rw [moveWord_of_active active] at eq
    by_cases last : s.xfer.rem - 1 = 0
    · have one : s.xfer.rem = 1 := by bv_omega
      exact .inr (.inr (.inl ⟨transmitting_of_active inv active, by rw [eq]; exact if_pos last, moves, active, one⟩))
    · exact absurd (by rw [eq]; exact if_neg last) changed
  | pushWord i k w moves held _ _ eq =>
    obtain ⟨-, -, hi⟩ := inv.pushing i k held
    rw [pushed_eq] at eq
    split at eq
    · exact absurd (eq ▸ rfl) changed
    · next last =>
      have ready : t.st = .ready := by cases k <;> exact eq ▸ rfl
      exact .inr (.inr (.inr (.inl ⟨transmitting_of_pushing inv held, ready, moves, i, k, held,
        Nat.le_antisymm hi (Nat.not_lt.1 last)⟩)))
  | stutter eq | reserved _ _ _ _ _ _ _ eq | waitXferDone _ _ _ eq | latchDone _ _ _ eq | shiftWord _ _ _ _ _ _ eq
  | idleGap _ _ _ _ _ eq => exact absurd (eq ▸ rfl) changed

/-! ### The queue (R197) -/

/-- No command makes the queue longer: BEGIN and END empty it and the others leave it. -/
theorem CommandEffect.fifo_le {i : Instr} {s t : State} (effect : CommandEffect i s t) : t.fifo.length ≤ s.fifo.length := by
  cases effect with
  | begins _ effect =>
    cases effect with
    | success _ _ _ _ _ _ _ _ _ _ eq => simp [eq]
    | violation _ eq | noProgram _ _ _ eq | noSlot _ _ _ _ _ _ eq => simp [eq]
  | ends _ _ eq =>
    obtain ⟨x, log, -, -, form⟩ := end_released s
    rw [eq, form]
    exact Nat.zero_le _
  | pixel idx p _ _ eq =>
    obtain ⟨q, -, form⟩ := paintPixel_form s idx p
    simp [eq, form]
  | misuse _ _ eq | fill _ _ _ eq | brightness _ _ eq | gamma _ _ eq | frameNoSlot _ _ eq | frameBusy _ _ _ eq
  | showChannel _ _ _ _ _ eq | asyncChannel _ _ _ _ _ eq | framePush _ _ _ _ _ eq | busy _ eq | waitNothing _ _ eq
  | waits _ _ eq | endNothing _ _ eq | size _ eq => simp [eq]

/-- A turn that makes the queue longer adds one word of `SB`, with room for it, and a frame is being sent. -/
theorem TurnEffect.fifo_grows {a : Agent} {s t : State} (effect : TurnEffect a s t) (longer : s.fifo.length < t.fifo.length) :
    s.fifo.length < s.par.fifoDepth ∧ (s.xfer.active = true ∨ ∃ i k, s.host = .pushing i k) ∧
      ∃ w ∈ s.sb, t.fifo = s.fifo ++ [w] := by
  cases effect with
  | xferMove w _ active room word eq =>
    rw [moveWord_of_active active] at eq
    exact ⟨room, .inl active, w, List.mem_of_getElem? word, by rw [eq]⟩
  | pushWord i k w _ held room word eq =>
    obtain ⟨st, host, resp, form⟩ := pushed_form s i k w
    exact ⟨room, .inr ⟨i, k, held⟩, w, List.mem_of_getElem? word, by rw [eq, form]⟩
  | command cw rest i _ _ _ _ effect => exact absurd longer (Nat.not_lt.2 effect.fifo_le)
  | shiftWord k w q _ _ queue eq => simp [eq, queue] at longer
  | stutter eq | reserved _ _ _ _ _ _ _ eq | waitXferDone _ _ _ eq | latchDone _ _ _ eq | idleGap _ _ _ _ _ eq =>
    simp [eq] at longer

/-- Settles O43: the two producers are those of `TurnEffect.fifo_grows`; both need a slot, and a push an idle channel. -/
theorem queueGrowsOnlyOnDataRequest : Obligations.QueueGrowsOnlyOnDataRequest := by
  unfold Obligations.QueueGrowsOnlyOnDataRequest
  refine fun s t inv => ⟨fun h longer => ?grows, fun ⟨active, i, k, held⟩ => ?exclusive⟩
  case grows =>
    obtain ⟨room, sending, w, hw, queue⟩ := (step_effect s t h).2.fifo_grows longer
    have transmitting : s.st = .transmitting := inv.transmitting.2 sending
    have slot : s.slot ≠ none := fun none => by
      cases transmitting.symm.trans (inv.slot_none.2 none)
    refine ⟨?_, ?_, w, hw, queue⟩
    · simp only [State.dreqFlag, State.fifoRoom, Bool.and_eq_true, decide_eq_true_eq]
      exact ⟨Option.isSome_iff_ne_none.2 slot, room⟩
    · rw [queue]
      simpa using room
  case exclusive => exact not_pushing_of_active inv active i k held

end Sys2Proof.Machine
end

section
/-! SUPPORT. The 24-bit packing (42_frame_encoder.md R141), the wire log read as frames (44_engine_agents.md R204) and the period
and the clamps of `hsv` (45_colormodel_hsv.md R222), with the obligations about them. -/

namespace Sys2Proof.Machine

open Sys2Proof.Safety

/-! ### The 24-bit packing -/

/-- Three bytes joined in 24 bits and shifted up by one byte are the concatenation with a zero byte. -/
theorem shiftLeft_or_eq_append_zero (g r b : Byte) :
    ((g.zeroExtend 24 <<< 16) ||| (r.zeroExtend 24 <<< 8) ||| b.zeroExtend 24).zeroExtend 32 <<< 8 = g ++ r ++ b ++ 0#8 := by
  apply BitVec.eq_of_getLsbD_eq
  intro k _
  simp only [BitVec.getLsbD_or, BitVec.getLsbD_shiftLeft, BitVec.getLsbD_setWidth, BitVec.getLsbD_append]
  grind

theorem pack24_eq_append (s : State) (p : Pixel) : s.pack24 p = s.apply p.g ++ s.apply p.r ++ s.apply p.b ++ 0#8 :=
  shiftLeft_or_eq_append_zero ..

theorem pack24_of_identity {s : State} (bri : s.bri = 255) (gen : s.gen = false) (p : Pixel) :
    s.pack24 p = p.g ++ p.r ++ p.b ++ 0#8 := by
  simp only [pack24_eq_append, apply_of_identity bri gen]

/-- Settles O24: the packing is the concatenation of the three transformed channels and a zero byte. -/
theorem packingOf24Bits : Obligations.PackingOf24Bits := by
  unfold Obligations.PackingOf24Bits
  refine ⟨pack24_eq_append, fun s r g b w x => rfl, fun s p bri gen => pack24_of_identity bri gen p, fun s w keeps => ?black,
    fun s w bri gen => ?sample⟩
  case black => exact pack24_eq_zero (apply_zero keeps) (apply_zero keeps) (apply_zero keeps)
  case sample =>
    have bytes : 0x34#8 ++ 0x12#8 ++ 0x56#8 ++ 0#8 = 0x34125600#32 := by decide
    exact (pack24_of_identity bri gen _).trans bytes

/-! ### The wire log read as frames -/

/-- An event that is not `Latch` goes on with the piece. -/
theorem framesFrom_cons {e : Event} (h : e ≠ .latch) (piece es : List Event) :
    framesFrom piece (e :: es) = framesFrom (piece ++ [e]) es := by
  cases e with
  | latch => exact absurd rfl h
  | word v w => rfl
  | abort => rfl

/-- `Latch` closes the piece read, unless it is empty. -/
theorem framesFrom_latch (piece es : List Event) :
    framesFrom piece (.latch :: es) = (if piece.isEmpty then [] else [⟨piece, true⟩]) ++ framesFrom [] es := by
  rw [framesFrom]
  split <;> rfl

/-- A stretch without `Latch` is read as one piece. -/
theorem framesFrom_append {es : List Event} (h : Event.latch ∉ es) (piece rest : List Event) :
    framesFrom piece (es ++ rest) = framesFrom (piece ++ es) rest := by
  induction es generalizing piece with
  | nil => simp
  | cons e es ih =>
    obtain ⟨he, hes⟩ := not_or.1 (List.mem_cons.not.1 h)
    rw [List.cons_append, framesFrom_cons (Ne.symm he), ih hes, List.append_assoc, List.singleton_append]

/-- After a `Latch` the reading starts anew. -/
theorem framesFrom_latch_append (piece before more : List Event) :
    framesFrom piece (before ++ [.latch] ++ more) = framesFrom piece (before ++ [.latch]) ++ framesFrom [] more := by
  induction before generalizing piece with
  | nil => simp [framesFrom_latch, framesFrom]
  | cons e es ih =>
    by_cases he : e = .latch
    · subst he
      simpa [framesFrom_latch] using ih []
    · simpa [framesFrom_cons he] using ih (piece ++ [e])

/-- Whatever a closed log gains is read on its own. -/
theorem frames_append {log : List Event} (closed : LogClosed log) (more : List Event) :
    frames (log ++ more) = frames log ++ frames more := by
  rcases closed with rfl | ⟨before, rfl⟩
  · rfl
  · exact framesFrom_latch_append [] before more

/-- R204: every frame is non-empty and holds no `Latch`, and only the last can be open. -/
theorem framesFrom_wf (log : List Event) {piece : List Event} (h : Event.latch ∉ piece) :
    (∀ f ∈ framesFrom piece log, f.events ≠ [] ∧ Event.latch ∉ f.events) ∧
      ∀ f ∈ (framesFrom piece log).dropLast, f.closed = true := by
  induction log generalizing piece with
  | nil => cases piece <;> simp_all [framesFrom]
  | cons e es ih =>
    by_cases he : e = .latch
    · subst he
      obtain ⟨nonempty, closed⟩ := ih (piece := []) (by simp)
      rw [framesFrom_latch]
      cases piece with
      | nil => exact ⟨nonempty, closed⟩
      | cons p ps =>
        refine ⟨fun f hf => ?_, fun f hf => ?_⟩
        · rcases List.mem_cons.1 hf with rfl | hf
          · exact ⟨by simp, h⟩
          · exact nonempty f hf
        · cases hrest : framesFrom [] es with
          | nil => simp [hrest] at hf
          | cons g gs =>
            rw [hrest] at closed
            simp only [hrest, List.isEmpty_cons, Bool.false_eq_true, if_false, List.cons_append, List.nil_append,
              List.dropLast_cons_cons, List.mem_cons] at hf
            rcases hf with rfl | hf
            · rfl
            · exact closed f hf
    · rw [framesFrom_cons he]
      exact ih (by simpa [h] using Ne.symm he)

/-- A log that ends with `Latch` leaves no frame open. -/
theorem framesFrom_latch_closed (before piece : List Event) : ∀ f ∈ framesFrom piece (before ++ [.latch]), f.closed = true := by
  induction before generalizing piece with
  | nil =>
    cases piece <;> simp [framesFrom]
  | cons e es ih =>
    by_cases he : e = .latch
    · subst he
      rw [List.cons_append, framesFrom_latch]
      intro f hf
      rcases List.mem_append.1 hf with hf | hf
      · cases piece <;> simp_all
      · exact ih [] f hf
    · rw [List.cons_append, framesFrom_cons he]
      exact ih _

theorem frames_closed {log : List Event} (closed : LogClosed log) : ∀ f ∈ frames log, f.closed = true := by
  rcases closed with rfl | ⟨before, rfl⟩
  · exact nofun
  · exact framesFrom_latch_closed before []

/-- A piece without `Latch` is one open frame. -/
theorem frames_piece {piece : List Event} (nonempty : piece ≠ []) (h : Event.latch ∉ piece) :
    frames piece = [⟨piece, false⟩] := by
  rw [frames, ← List.append_nil piece, framesFrom_append h]
  simp [framesFrom, nonempty]

/-- A piece without `Latch` and then `Latch` is one closed frame. -/
theorem frames_piece_latch {piece : List Event} (nonempty : piece ≠ []) (h : Event.latch ∉ piece) :
    frames (piece ++ [.latch]) = [⟨piece, true⟩] := by
  rw [frames, framesFrom_append h]
  simp [framesFrom, nonempty]

/-- Settles O54: a closed log is read on its own (`frames_append`), so what follows it is one piece. -/
theorem framesCutAtLatch : Obligations.FramesCutAtLatch := by
  unfold Obligations.FramesCutAtLatch
  refine ⟨fun log => framesFrom_wf log (by simp), fun log piece closed nonempty h => ⟨?_, ?_⟩,
    fun log closed => ⟨?_, frames_closed closed⟩, rfl⟩
  · rw [List.append_assoc, frames_append closed, frames_piece_latch nonempty h]
  · rw [frames_append closed, frames_piece nonempty h]
  · rw [frames_append closed]
    exact List.append_nil _

/-! ### The period and the clamps of `hsv` -/

theorem clamp01_of_nonpos {x : Rat} (h : x ≤ 0) : clamp01 x = 0 := if_pos h

theorem clamp01_of_one_le {x : Rat} (h : 1 ≤ x) : clamp01 x = 1 := by
  have pos : ¬x ≤ 0 := not_le.2 (zero_lt_one.trans_le h)
  rw [clamp01, if_neg pos, if_pos h]

/-- The floored remainder has its modulus for a period. -/
theorem floorMod_add_mul_int {m : Rat} (hm : m ≠ 0) (x : Rat) (n : Int) : floorMod (x + m * n) m = floorMod x m := by
  have quotient : (x + m * n) / m = x / m + n := by field_simp
  have floor : (x / m + n).floor = (x / m).floor + n := Int.floor_add_intCast (x / m) n
  rw [floorMod, floorMod, quotient, floor]
  push_cast
  ring

/-- Without value the chroma and the offset are zero, so every channel is `rnd(0) = 0`. -/
theorem hsv_zero_value (h s : Rat) {v : Rat} (hv : v ≤ 0) : hsv h s v = ⟨0, 0, 0⟩ := by
  have black : roundChannel 0 = 0 := by decide +kernel
  simp only [hsv, clamp01_of_nonpos hv, zero_mul, sectorChannels_zero, sub_zero, add_zero, black]

/-- Settles O58: the hue enters by its remainder modulo 360, saturation and value by `clamp01`. -/
theorem hsvWrapsAndClamps : Obligations.HsvWrapsAndClamps := by
  unfold Obligations.HsvWrapsAndClamps
  refine ⟨fun h s v n => ?_, fun h s v => ⟨fun hs => ?_, fun hs => ?_⟩, fun h s v hv => ?_, fun h s v hv => hsv_zero_value h s hv⟩
  · rw [hsv, hsv, floorMod_add_mul_int (by norm_num)]
  · rw [hsv, hsv, clamp01_of_one_le hs, clamp01_of_one_le le_rfl]
  · rw [hsv, hsv, clamp01_of_nonpos hs, clamp01_zero]
  · rw [hsv, hsv, clamp01_of_one_le hv, clamp01_of_one_le le_rfl]

end Sys2Proof.Machine
end

section
/-! SUPPORT. Noninterference: what a step reads of the pixel buffer, the wire log, the slot and the channel held, the platform and
the count of draws. One simulation, for every relation on these parts that the machine cannot see, serves the three obligations:
the white channels of a 24-bit strip (40_buffer_ops.md R108), the wire log (10_state.md R34) and BEGIN's draws (43_engine_commands.md
R162). -/

namespace Sys2Proof.Machine

open Sys2Proof.Safety

/-! ### The parts that vary -/

/-- The fields of the state in which the two states of a simulation differ. -/
structure Parts where
  pb : List Pixel
  wire : List Event
  slot : Option Nat
  ch : Channel
  plat : Plat
  draws : Nat

def State.parts (s : State) : Parts := ⟨s.pb, s.wire, s.slot, s.ch, s.plat, s.draws⟩

def State.withParts (s : State) (p : Parts) : State :=
  { s with pb := p.pb, wire := p.wire, slot := p.slot, ch := p.ch, plat := p.plat, draws := p.draws }

def Parts.logWire (p : Parts) (e : Event) : Parts := { p with wire := p.wire ++ [e] }

/-- The channel and the slot held are given back (R171). -/
def Parts.released (blk : Nat) (p : Parts) : Parts :=
  let x := match p.ch with
    | .available c => p.plat.setChan c false
    | .unavailable => p.plat
  { p with ch := .unavailable, slot := none, plat := match p.slot with
    | some k => x.setSlot blk k false
    | none => x }

theorem release_eq_withParts (s : State) :
    s.releaseChannel.releaseSlot = s.withParts (s.parts.released s.cfg.block) := by
  obtain ⟨cfg, par, pb, bri, gen, gt, st, slot, ch, sb⟩ := s
  cases ch <;> cases slot <;> rfl

/-- A relation on the varying parts that the machine keeps and cannot see: it preserves whether a slot and a channel are held, and is
kept by every write to the parts but BEGIN's. -/
structure Invisible (V : Parts → Parts → Prop) : Prop where
  slot : ∀ {p p'}, V p p' → p'.slot.isSome = p.slot.isSome
  ch : ∀ {p p'}, V p p' → (p'.ch = .unavailable ↔ p.ch = .unavailable)
  log : ∀ {p p'} e, V p p' → V (p.logWire e) (p'.logWire e)
  fill : ∀ {p p'} q, V p p' → V { p with pb := q } { p' with pb := q }
  set : ∀ {p p'} j x, V p p' → V { p with pb := p.pb.set j x } { p' with pb := p'.pb.set j x }
  release : ∀ {p p'} blk, V p p' → V (p.released blk) (p'.released blk)

/-- `act` takes `s` with the parts `p` to what it takes `s` to, with parts again related. -/
def Follows (V : Parts → Parts → Prop) (act : State → Result) (s : State) (p : Parts) : Prop :=
  ∀ t, act s = .next t → ∃ p', V t.parts p' ∧ act (s.withParts p) = .next (t.withParts p')

section

variable {V : Parts → Parts → Prop} {s : State} {p : Parts}

theorem Follows.of_next {act : State → Result} {u : State} {p' : Parts} (one : act s = .next u)
    (two : act (s.withParts p) = .next (u.withParts p')) (related : V u.parts p') : Follows V act s p := fun t ht => by
  cases one.symm.trans ht
  exact ⟨p', related, two⟩

/-- An agent's step that is enabled in both states or in neither. -/
theorem Follows.of_step {u : State → Option State} (related : V s.parts p)
    (moves : ∀ t, u s = some t → ∃ p', V t.parts p' ∧ u (s.withParts p) = some (t.withParts p'))
    (enabled : ∀ t, u (s.withParts p) = some t → ∃ v, u s = some v) : Follows V (fun s => turnOf (u s) s) s p := by
  cases one : u s with
  | none =>
    have two : u (s.withParts p) = none := Option.eq_none_iff_forall_ne_some.2 fun t ht => by
      obtain ⟨v, hv⟩ := enabled t ht
      cases one.symm.trans hv
    exact .of_next (u := s) (by simp [turnOf, one]) (by simp [turnOf, two]) related
  | some t =>
    obtain ⟨p', kept, two⟩ := moves t one
    exact .of_next (u := t) (by simp [turnOf, one]) (by simp [turnOf, two]) kept

/-! ### The agents -/

theorem follows_xferMove (related : V s.parts p) : Follows V (fun s => turnOf s.xferMove s) s p := by
  refine .of_step related (fun t ht => ?_) fun t ht => ?_
  · obtain ⟨active, room, w, word, rfl⟩ := (xferMove_some _ _).1 ht
    rw [moveWord_of_active active]
    exact ⟨p, related, (xferMove_some _ _).2 ⟨active, room, w, word, moveWord_of_active (s := s.withParts p) active w⟩⟩
  · obtain ⟨active, room, w, word, -⟩ := (xferMove_some _ _).1 ht
    exact ⟨_, (xferMove_some _ _).2 ⟨active, room, w, word, rfl⟩⟩

theorem pushed_withParts (s : State) (p : Parts) (i : Idx) (k : AfterPush) (w : Word32) :
    (s.withParts p).pushed i k w = (s.pushed i k w).withParts p := by
  rw [pushed_eq, pushed_eq]
  by_cases more : i.toNat + 1 < s.cfg.n
  · rw [if_pos more, if_pos (by exact more)]
    rfl
  · rw [if_neg more, if_neg (by exact more)]
    cases k <;> rfl

theorem follows_pushWord (related : V s.parts p) : Follows V (fun s => turnOf s.pushWord s) s p := by
  refine .of_step related (fun t ht => ?_) fun t ht => ?_
  · obtain ⟨i, k, w, held, room, word, rfl⟩ := (pushWord_some _ _).1 ht
    obtain ⟨st, host, resp, form⟩ := pushed_form s i k w
    exact ⟨p, by rw [form]; exact related, (pushWord_some _ _).2 ⟨i, k, w, held, room, word, pushed_withParts s p i k w⟩⟩
  · obtain ⟨i, k, w, held, room, word, -⟩ := (pushWord_some _ _).1 ht
    exact ⟨_, (pushWord_some _ _).2 ⟨i, k, w, held, room, word, rfl⟩⟩

theorem follows_waitXferDone (hV : Invisible V) (related : V s.parts p) :
    Follows V (fun s => turnOf s.waitXferDone s) s p := by
  refine .of_step related (fun t ht => ?_) fun t ht => ?_
  · obtain ⟨held, ready, rfl⟩ := (waitXferDone_some _ _).1 ht
    exact ⟨p, related, (waitXferDone_some _ _).2 ⟨held, ready.imp_left (hV.ch related).2, rfl⟩⟩
  · obtain ⟨held, ready, -⟩ := (waitXferDone_some _ _).1 ht
    exact ⟨_, (waitXferDone_some _ _).2 ⟨held, ready.imp_left (hV.ch related).1, rfl⟩⟩

theorem follows_latchDone (hV : Invisible V) (related : V s.parts p) : Follows V (fun s => turnOf s.latchDone s) s p := by
  refine .of_step related (fun t ht => ?_) fun t ht => ?_
  · obtain ⟨held, empty, rfl⟩ := (latchDone_some _ _).1 ht
    exact ⟨_, hV.log .latch related, (latchDone_some _ _).2 ⟨held, empty, rfl⟩⟩
  · obtain ⟨held, empty, -⟩ := (latchDone_some _ _).1 ht
    exact ⟨_, (latchDone_some _ _).2 ⟨held, empty, rfl⟩⟩

theorem slot_iff (hV : Invisible V) (related : V s.parts p) : (∃ k, p.slot = some k) ↔ ∃ k, s.slot = some k := by
  rw [← Option.isSome_iff_exists, ← Option.isSome_iff_exists, hV.slot related]
  rfl

theorem follows_shiftWord (hV : Invisible V) (related : V s.parts p) : Follows V (fun s => turnOf s.shiftWord s) s p := by
  refine .of_step related (fun t ht => ?_) fun t ht => ?_
  · obtain ⟨k, w, q, slot, queue, rfl⟩ := (shiftWord_some _ _).1 ht
    obtain ⟨k', slot'⟩ := (slot_iff hV related).2 ⟨k, slot⟩
    exact ⟨_, hV.log _ related, (shiftWord_some _ _).2 ⟨k', w, q, slot', queue, rfl⟩⟩
  · obtain ⟨k', w, q, slot', queue, -⟩ := (shiftWord_some _ _).1 ht
    obtain ⟨k, slot⟩ := (slot_iff hV related).1 ⟨k', slot'⟩
    exact ⟨_, (shiftWord_some _ _).2 ⟨k, w, q, slot, queue, rfl⟩⟩

theorem follows_idleGap (hV : Invisible V) (related : V s.parts p) : Follows V (fun s => turnOf s.idleGap s) s p := by
  refine .of_step related (fun t ht => ?_) fun t ht => ?_
  · obtain ⟨slot, idle, inactive, empty, rfl⟩ := (idleGap_some _ _).1 ht
    exact ⟨_, hV.log .latch related, (idleGap_some _ _).2 ⟨(slot_iff hV related).2 slot, idle, inactive, empty, rfl⟩⟩
  · obtain ⟨slot, idle, inactive, empty, -⟩ := (idleGap_some _ _).1 ht
    exact ⟨_, (idleGap_some _ _).2 ⟨(slot_iff hV related).1 slot, idle, inactive, empty, rfl⟩⟩

theorem follows_heldStep (hV : Invisible V) (related : V s.parts p) : Follows V (fun s => turnOf s.heldStep s) s p := by
  have phase : ∀ u : State → Option State, s.heldStep = u s → (s.withParts p).heldStep = u (s.withParts p) →
      Follows V (fun s => turnOf (u s) s) s p → Follows V (fun s => turnOf s.heldStep s) s p := fun u one two h => by
    simpa only [Follows, one, two] using h
  cases host : s.host with
  | idle =>
    exact phase (fun _ => none) (by simp [State.heldStep, host]) (by simp [State.heldStep, State.withParts, host])
      (.of_next (u := s) rfl rfl related)
  | pushing i k =>
    exact phase State.pushWord (by simp [State.heldStep, host]) (by simp [State.heldStep, State.withParts, host])
      (follows_pushWord related)
  | waitXfer =>
    exact phase State.waitXferDone (by simp [State.heldStep, host]) (by simp [State.heldStep, State.withParts, host])
      (follows_waitXferDone hV related)
  | latchWait =>
    exact phase State.latchDone (by simp [State.heldStep, host]) (by simp [State.heldStep, State.withParts, host])
      (follows_latchDone hV related)

/-! ### The commands -/

/-- A painting command: the same fault, or the same write to both pixel buffers. -/
theorem follows_paint (hV : Invisible V) (related : V s.parts p) {i : Instr}
    (hi : i.mnemonic ∈ [Mnemonic.setallRgb, .setallRgbw, .setpixelRgb, .setpixelRgbw, .clear]) : Follows V (exec i) s p := by
  cases active : s.xfer.active with
  | true => exact .of_next (exec_paint_of_active hi active) (exec_paint_of_active (s := s.withParts p) hi active) related
  | false =>
    have fill : ∀ (op : Mnemonic) (x : Pixel),
        Follows V (whileNoTransfer op (fun s => complete 0 (s.fillPB x))) s p := fun op x =>
      .of_next (p' := { p with pb := List.replicate s.cfg.n x }) (fill_of_inactive active op x)
        (fill_of_inactive (s := s.withParts p) active op x) (hV.fill _ related)
    have paint : ∀ (op : Mnemonic) (idx : Idx) (x : Pixel),
        Follows V (whileNoTransfer op (fun s => complete 0 (s.paintPixel (zextIndex idx) x))) s p := fun op idx x => by
      have one := whileNoTransfer_of_inactive active op (fun s => complete 0 (s.paintPixel (zextIndex idx) x))
      have two := whileNoTransfer_of_inactive (s := s.withParts p) active op
        (fun s => complete 0 (s.paintPixel (zextIndex idx) x))
      rw [paintPixel_eq] at one two
      by_cases lt : idx.toNat < s.cfg.n
      · rw [if_pos lt] at one
        rw [if_pos (by exact lt)] at two
        exact .of_next (p' := { p with pb := p.pb.set idx.toNat x }) one two (hV.set _ _ related)
      · rw [if_neg lt] at one
        rw [if_neg (by exact lt)] at two
        exact .of_next one two related
    cases i with
    | setallRgb r g b => exact fill _ _
    | setallRgbw r g b w => exact fill _ _
    | clear => exact fill _ _
    | setpixelRgb idx r g b => exact paint _ _ _
    | setpixelRgbw idx r g b w => exact paint _ _ _
    | _ => simp [Instr.mnemonic] at hi

/-- SHOW and SHOWASYNC: the same fault, or the same frame on the same path. -/
theorem follows_frame (hV : Invisible V) (related : V s.parts p) (frame : (s.withParts p).frameWords = s.frameWords)
    {i : Instr} (hi : i = .showCmd ∨ i = .showasync) : Follows V (exec i) s p := by
  by_cases uninit : s.st = .uninitialized
  · exact .of_next (exec_frame_of_uninit hi uninit) (exec_frame_of_uninit (s := s.withParts p) hi uninit) related
  cases active : s.xfer.active with
  | true =>
    exact .of_next (exec_frame_of_active hi uninit active) (exec_frame_of_active (s := s.withParts p) hi uninit active) related
  | false =>
    have encoded : (s.withParts p).encodeFrame = s.encodeFrame.withParts p := by
      rw [State.encodeFrame, frame]
      rfl
    cases ch : s.ch with
    | unavailable =>
      have ch' : (s.withParts p).ch = .unavailable := (hV.ch related).2 ch
      rcases hi with rfl | rfl
      · refine .of_next (p' := p) (exec_showCmd_of_no_channel uninit active ch) ?_ related
        rw [exec_showCmd_of_no_channel (s := s.withParts p) uninit active ch', encoded]
        rfl
      · refine .of_next (p' := p) (exec_showasync_of_no_channel uninit active ch) ?_ related
        rw [exec_showasync_of_no_channel (s := s.withParts p) uninit active ch', encoded]
        rfl
    | available c =>
      cases ch' : (s.withParts p).ch with
      | unavailable => cases ch.symm.trans ((hV.ch related).1 ch')
      | available c' =>
        rcases hi with rfl | rfl
        · refine .of_next (p' := p) (exec_showCmd_of_channel uninit active ch) ?_ related
          rw [exec_showCmd_of_channel (s := s.withParts p) uninit active ch', encoded]
          rfl
        · refine .of_next (p' := p) (exec_showasync_of_channel uninit active ch) ?_ related
          rw [exec_showasync_of_channel (s := s.withParts p) uninit active ch', encoded]
          rfl

/-- The flag of BUSY sees whether a channel is held and not which. -/
theorem busyFlag_withParts (hV : Invisible V) (related : V s.parts p) : (s.withParts p).busyFlag = s.busyFlag := by
  have ch : p.ch = .unavailable ↔ s.ch = .unavailable := hV.ch related
  cases one : s.ch with
  | unavailable => rw [busyFlag_of_unavailable one, busyFlag_of_unavailable (ch.2 one)]
  | available c =>
    cases two : p.ch with
    | unavailable => cases one.symm.trans (ch.1 two)
    | available c' => simp [State.busyFlag, State.withParts, one, two]

/-- END: the same event, and what is held given back on both sides. -/
theorem follows_endCmd (hV : Invisible V) (related : V s.parts p) : Follows V (exec .endCmd) s p := by
  by_cases uninit : s.st = .uninitialized
  · exact .of_next (exec_endCmd_of_uninit uninit) (exec_endCmd_of_uninit (s := s.withParts p) uninit) related
  have one := exec_endCmd s
  have two := exec_endCmd (s.withParts p)
  rw [if_neg uninit, release_eq_withParts] at one
  rw [if_neg (by exact uninit), release_eq_withParts] at two
  by_cases unsent : (s.xfer.active || !s.fifo.isEmpty) = true
  · rw [State.logAbort, if_pos unsent] at one
    rw [State.logAbort, if_pos (by exact unsent)] at two
    exact .of_next (p' := (p.logWire .abort).released s.cfg.block) one two 
      (hV.release (p := s.parts.logWire .abort) s.cfg.block (hV.log .abort related))
  · rw [State.logAbort, if_neg unsent] at one
    rw [State.logAbort, if_neg (by exact unsent)] at two
    exact .of_next (p' := p.released s.cfg.block) one two (hV.release (p := s.parts) s.cfg.block related)

/-- Every command, given what SHOW and BEGIN read of the parts. -/
theorem follows_exec (hV : Invisible V) (related : V s.parts p) (frame : (s.withParts p).frameWords = s.frameWords)
    (begins : Follows V (exec .beginCmd) s p) (i : Instr) : Follows V (exec i) s p := by
  cases i with
  | setallRgb | setallRgbw | setpixelRgb | setpixelRgbw | clear => exact follows_paint hV related (by simp [Instr.mnemonic])
  | setbrightness | enablegamma | size => exact .of_next rfl rfl related
  | beginCmd => exact begins
  | showCmd => exact follows_frame hV related frame (.inl rfl)
  | showasync => exact follows_frame hV related frame (.inr rfl)
  | busy =>
    refine .of_next (exec_busy s) ?_ (p' := p) related
    rw [exec_busy, busyFlag_withParts hV related]
    rfl
  | wait =>
    by_cases uninit : s.st = .uninitialized
    · exact .of_next (exec_wait_of_uninit uninit) (exec_wait_of_uninit (s := s.withParts p) uninit) related
    · exact .of_next (exec_wait_of_held uninit) (exec_wait_of_held (s := s.withParts p) uninit) related
  | endCmd => exact follows_endCmd hV related

/-! ### The step -/

/-- The turn of an agent, given what SHOW and BEGIN read of the parts. -/
theorem follows_agentTurn (hV : Invisible V) (related : V s.parts p) (frame : (s.withParts p).frameWords = s.frameWords)
    (begins : ∀ rest, Follows V (exec .beginCmd) (s.setPort rest) p) (a : Agent) : Follows V (agentTurn a) s p := by
  cases a with
  | channel => exact follows_xferMove related
  | engine => exact follows_shiftWord hV related
  | time => exact follows_idleGap hV related
  | host =>
    by_cases idle : s.host = .idle
    · cases port : s.port with
      | nil =>
        exact .of_next (hostTurn_of_port_nil idle port) (hostTurn_of_port_nil (s := s.withParts p) idle port) related
      | cons cw rest =>
        have accepts : Follows V (accept cw) (s.setPort rest) p := by
          cases legal : decode cw with
          | ok i =>
            intro t ht
            rw [accept_of_decode legal] at ht ⊢
            exact follows_exec (s := s.setPort rest) hV related frame (begins rest) i t ht
          | error e =>
            have bad : ∀ i, decode cw ≠ .ok i := fun i hi => by cases legal.symm.trans hi
            exact .of_next (accept_of_reserved bad _) (accept_of_reserved bad _) related
        intro t ht
        obtain ⟨p', kept, two⟩ := accepts t ((hostTurn_of_idle idle port).symm.trans ht)
        exact ⟨p', kept, (hostTurn_of_idle (s := s.withParts p) idle port).trans two⟩
    · intro t ht
      obtain ⟨p', kept, two⟩ := follows_heldStep hV related t ((hostTurn_of_held idle).symm.trans ht)
      exact ⟨p', kept, (hostTurn_of_held (s := s.withParts p) idle).trans two⟩

/-- The step, given what SHOW and BEGIN read of the parts. -/
theorem follows_step (hV : Invisible V) (related : V s.parts p) (frame : (s.withParts p).frameWords = s.frameWords)
    (begins : ∀ rest, Follows V (exec .beginCmd) (s.takeTurn.setPort rest) p) : Follows V step s p := by
  intro t ht
  obtain ⟨safe, -⟩ := step_effect s t ht
  obtain ⟨p', kept, two⟩ := follows_agentTurn (s := s.takeTurn) hV related frame begins s.nextAgent t
    ((step_of_safe s safe).symm.trans ht)
  exact ⟨p', kept, (step_of_safe (s.withParts p) safe).trans two⟩

end

/-! ### BEGIN with another pixel buffer and another log -/

/-- The state with another pixel buffer and another log. -/
def State.withBufferLog (s : State) (q : List Pixel) (log : List Event) : State := { s with pb := q, wire := log }

theorem loadProgram_withBufferLog (s : State) (q : List Pixel) (log : List Event) :
    (s.withBufferLog q log).loadProgram = s.loadProgram.map (·.withBufferLog q log) := by
  cases program : s.plat.program s.cfg.block with
  | loaded off => simp [State.loadProgram, State.withBufferLog, program]
  | notLoaded =>
    cases fits : s.par.progFits.getD s.cfg.block false with
    | false => simp only [State.loadProgram, State.withBufferLog, program, fits]; rfl
    | true => simp only [State.loadProgram, State.withBufferLog, program, fits]; rfl

theorem claimSlot_withBufferLog (s : State) (q : List Pixel) (log : List Event) :
    (s.withBufferLog q log).claimSlot = s.claimSlot.map (·.withBufferLog q log) := by
  by_cases auto : s.cfg.slotReq = -1
  · cases free : s.plat.freeSlots s.par s.cfg.block with
    | nil => simp [State.claimSlot, State.withBufferLog, auto, free]
    | cons k ks => simp only [State.claimSlot, State.withBufferLog, auto, free]; rfl
  · simp only [State.claimSlot, State.withBufferLog, auto]; rfl

theorem makeReady_withBufferLog (s : State) (q : List Pixel) (log : List Event) :
    (s.withBufferLog q log).makeReady = s.makeReady.withBufferLog s.makeReady.pb log := by
  cases free : s.plat.freeChans s.par with
  | nil =>
    simp only [State.makeReady, State.acquireChannel, State.configureSlot, State.withBufferLog, free]
    rfl
  | cons c cs =>
    simp only [State.makeReady, State.acquireChannel, State.configureSlot, State.withBufferLog, free]
    rfl

/-- BEGIN reads neither the pixel buffer nor the log; it keeps the log, and keeps the buffer or clears it. -/
theorem exec_beginCmd_withBufferLog {s t : State} (h : exec .beginCmd s = .next t) (q : List Pixel) (log : List Event) :
    t.wire = s.wire ∧ ∃ q', (t.pb = s.pb ∧ q' = q ∨ q' = t.pb) ∧
      exec .beginCmd (s.withBufferLog q log) = .next (t.withBufferLog q' log) := by
  have effect := exec_beginCmd_effect h
  have kept : t.wire = s.wire := by
    obtain ⟨plat, slot, te, fifo, ch, xfer, pb, st, resp, host, draws, fault, rfl, -⟩ := effect.frame
    rfl
  refine ⟨kept, ?_⟩
  by_cases uninit : s.st = .uninitialized
  · have uninit' : (s.withBufferLog q log).st = .uninitialized := uninit
    simp only [exec, execBegin, if_pos uninit] at h
    simp only [exec, execBegin, if_pos uninit', loadProgram_withBufferLog]
    cases loads : s.loadProgram with
    | none =>
      simp only [loads] at h
      cases h
      exact ⟨q, .inl ⟨rfl, rfl⟩, rfl⟩
    | some s1 =>
      obtain ⟨x, d, -, rfl⟩ := loadProgram_form s s1 loads
      simp only [loads] at h
      simp only [Option.map_some, claimSlot_withBufferLog]
      cases claims : State.claimSlot { s with plat := x, draws := d } with
      | none =>
        simp only [claims] at h
        cases h
        exact ⟨q, .inl ⟨rfl, rfl⟩, rfl⟩
      | some s2 =>
        simp only [claims] at h
        cases h
        simp only [Option.map_some, makeReady_withBufferLog]
        exact ⟨s2.makeReady.pb, .inr rfl, rfl⟩
  · cases (exec_beginCmd_of_held uninit).symm.trans h
    exact ⟨q, .inl ⟨rfl, rfl⟩, exec_beginCmd_of_held (s := s.withBufferLog q log) uninit⟩

/-! ### The white channel of a 24-bit strip (R108) -/

/-- The colour channels of a pixel, white left out. -/
def Pixel.colour (p : Pixel) : Byte × Byte × Byte := (p.r, p.g, p.b)

/-- Two pixel buffers, all else being equal, that differ in white alone. -/
def SameColours (p p' : Parts) : Prop := p'.pb.map Pixel.colour = p.pb.map Pixel.colour ∧ p' = { p with pb := p'.pb }

theorem sameColours_invisible : Invisible SameColours where
  slot := fun ⟨_, eq⟩ => by rw [eq]
  ch := fun ⟨_, eq⟩ => by rw [eq]
  log := fun e ⟨colours, eq⟩ => ⟨colours, by rw [eq]; rfl⟩
  fill := fun q ⟨_, eq⟩ => ⟨rfl, by rw [eq]⟩
  set := fun j x ⟨colours, eq⟩ => ⟨by simp [List.map_set, colours], by rw [eq]⟩
  release := fun blk ⟨colours, eq⟩ => ⟨colours, by rw [eq]; rfl⟩

/-- R141: on a 24-bit strip the frame is a function of the colours. -/
theorem frameWords_of_colours {s : State} (fmt : s.cfg.fmt = .rgb) {q : List Pixel}
    (colours : q.map Pixel.colour = s.pb.map Pixel.colour) : ({ s with pb := q } : State).frameWords = s.frameWords := by
  have packed : ∀ l : List Pixel, l.map s.packPixel =
      (l.map Pixel.colour).map fun c => s.pack24 ⟨c.1, c.2.1, c.2.2, 0⟩ := fun l => by
    rw [List.map_map]
    refine List.map_congr_left fun x _ => ?_
    rw [State.packPixel, fmt]
    rfl
  exact (packed q).trans (colours ▸ (packed s.pb).symm)

theorem follows_beginCmd_of_colours {s : State} {p : Parts} (related : SameColours s.parts p) :
    Follows SameColours (exec .beginCmd) s p := by
  obtain ⟨colours, eq⟩ := related
  intro t ht
  obtain ⟨wire, q', buffer, two⟩ := exec_beginCmd_withBufferLog ht p.pb s.wire
  refine ⟨{ t.parts with pb := q' }, ⟨?_, rfl⟩, ?_⟩
  · rcases buffer with ⟨same, rfl⟩ | rfl
    · simpa [State.parts, same] using colours
    · rfl
  · rw [eq]
    refine two.trans ?_
    rw [← wire]
    rfl

/-- Settles O27: the simulation for `SameColours`. -/
theorem whiteUnusedOn24BitStrip : Obligations.WhiteUnusedOn24BitStrip := by
  unfold Obligations.WhiteUnusedOn24BitStrip
  intro s q fmt colours
  have related : SameColours s.parts { s.parts with pb := q } := ⟨colours, rfl⟩
  have frame := frameWords_of_colours fmt colours
  refine ⟨frame, fun i t ht => ?_, fun t ht => ?_, fun f hf => ?_⟩
  · obtain ⟨p', ⟨kept, eq⟩, two⟩ :=
      follows_exec sameColours_invisible related frame (follows_beginCmd_of_colours related) i t ht
    rw [eq] at two
    exact ⟨p'.pb, two, kept⟩
  · obtain ⟨cfg, -⟩ := (step_effect s t ht).2.keeps_inputs
    obtain ⟨p', ⟨kept, eq⟩, two⟩ := follows_step sameColours_invisible related frame
      (fun rest => follows_beginCmd_of_colours (s := s.takeTurn.setPort rest) related) t ht
    rw [eq] at two
    exact ⟨(congrArg Cfg.fmt cfg).trans fmt, p'.pb, two, kept⟩
  · cases fault : s.fault with
    | some g =>
      cases (step_of_fault s g fault).symm.trans hf
      exact step_of_fault _ _ rfl
    | none =>
      obtain ⟨t, ht⟩ := step_next s fault
      cases ht.symm.trans hf

/-! ### The wire log (R34) -/

/-- Two logs, all else being equal, that have gained the same events since they were `one` and `two`. -/
def SameGain (one two : List Event) (p p' : Parts) : Prop :=
  ∃ es, p.wire = one ++ es ∧ p' = { p with wire := two ++ es }

theorem sameGain_invisible (one two : List Event) : Invisible (SameGain one two) where
  slot := by
    rintro p _ ⟨es, -, rfl⟩
    rfl
  ch := by
    rintro p _ ⟨es, -, rfl⟩
    rfl
  log := by
    rintro p _ e ⟨es, gain, rfl⟩
    exact ⟨es ++ [e], by simp [Parts.logWire, gain], by simp [Parts.logWire]⟩
  fill := by
    rintro p _ q ⟨es, gain, rfl⟩
    exact ⟨es, gain, rfl⟩
  set := by
    rintro p _ j x ⟨es, gain, rfl⟩
    exact ⟨es, gain, rfl⟩
  release := by
    rintro p _ blk ⟨es, gain, rfl⟩
    exact ⟨es, gain, rfl⟩

theorem follows_beginCmd_of_gain {one two : List Event} {s : State} {p : Parts} (related : SameGain one two s.parts p) :
    Follows (SameGain one two) (exec .beginCmd) s p := by
  obtain ⟨es, gain, rfl⟩ := related
  intro t ht
  obtain ⟨wire, q', buffer, next⟩ := exec_beginCmd_withBufferLog ht s.pb (two ++ es)
  have same : q' = t.pb := by
    rcases buffer with ⟨same, rfl⟩ | rfl
    · exact same.symm
    · rfl
  rw [same] at next
  exact ⟨{ t.parts with wire := two ++ es }, ⟨es, wire.trans gain, rfl⟩, next⟩

/-- A command adds at most one event to the log. -/
theorem CommandEffect.wire_gain {i : Instr} {s t : State} (effect : CommandEffect i s t) :
    ∃ es, es.length ≤ 1 ∧ t.wire = s.wire ++ es := by
  have quiet : t.wire = s.wire → ∃ es, es.length ≤ 1 ∧ t.wire = s.wire ++ es := fun h => ⟨[], by simp, by simpa using h⟩
  cases effect with
  | begins _ effect =>
    obtain ⟨plat, slot, te, fifo, ch, xfer, pb, st, resp, host, draws, fault, rfl, -⟩ := effect.frame
    exact quiet rfl
  | ends _ _ eq =>
    obtain ⟨x, log, hlog, -, form⟩ := end_released s
    rw [form] at eq
    rcases hlog with ⟨rfl, -⟩ | ⟨rfl, -⟩
    · exact quiet (eq ▸ rfl)
    · exact ⟨[.abort], by simp, eq ▸ rfl⟩
  | pixel idx p _ _ eq =>
    obtain ⟨q, -, form⟩ := paintPixel_form s idx p
    rw [form] at eq
    exact quiet (eq ▸ rfl)
  | misuse _ _ eq | fill _ _ _ eq | brightness _ _ eq | gamma _ _ eq | frameNoSlot _ _ eq | frameBusy _ _ _ eq
  | showChannel _ _ _ _ _ eq | asyncChannel _ _ _ _ _ eq | framePush _ _ _ _ _ eq | busy _ eq | waitNothing _ _ eq
  | waits _ _ eq | endNothing _ _ eq | size _ eq => exact quiet (eq ▸ rfl)

/-- A turn adds at most one event to the log. -/
theorem TurnEffect.wire_gain {a : Agent} {s t : State} (effect : TurnEffect a s t) :
    ∃ es, es.length ≤ 1 ∧ t.wire = s.wire ++ es := by
  have quiet : t.wire = s.wire → ∃ es, es.length ≤ 1 ∧ t.wire = s.wire ++ es := fun h => ⟨[], by simp, by simpa using h⟩
  have logs : ∀ e, t.wire = s.wire ++ [e] → ∃ es, es.length ≤ 1 ∧ t.wire = s.wire ++ es := fun e h => ⟨[e], by simp, h⟩
  cases effect with
  | command cw rest i _ _ _ _ effect => exact effect.wire_gain
  | pushWord i k w _ _ _ _ eq =>
    obtain ⟨st, host, resp, form⟩ := pushed_form s i k w
    rw [form] at eq
    exact quiet (eq ▸ rfl)
  | xferMove w _ active _ _ eq =>
    rw [moveWord_of_active active] at eq
    exact quiet (eq ▸ rfl)
  | latchDone _ _ _ eq | idleGap _ _ _ _ _ eq => exact logs .latch (eq ▸ rfl)
  | shiftWord k w q _ _ _ eq => exact logs (.word (topBits w s.te.width) s.te.width) (eq ▸ rfl)
  | stutter eq | reserved _ _ _ _ _ _ _ eq | waitXferDone _ _ _ eq => exact quiet (eq ▸ rfl)

/-- Settles O44: a turn adds at most one event, and the simulation for `SameGain` adds the same. -/
theorem wireLogOnlyRecords : Obligations.WireLogOnlyRecords := by
  unfold Obligations.WireLogOnlyRecords
  intro s t ht
  obtain ⟨es, short, gain⟩ := (step_effect s t ht).2.wire_gain
  refine ⟨es, short, gain, fun log => ?_⟩
  have related : SameGain s.wire log s.parts { s.parts with wire := log } :=
    ⟨[], (List.append_nil _).symm, by rw [List.append_nil]⟩
  obtain ⟨p', ⟨es', gain', rfl⟩, two⟩ := follows_step (sameGain_invisible _ _) related rfl
    (fun rest => follows_beginCmd_of_gain (s := s.takeTurn.setPort rest) related) t ht
  have same : es' = es := List.append_cancel_left (gain'.symm.trans gain)
  exact same ▸ two

/-! ### BEGIN's draws (R162) -/

/-- Two holdings of a slot and a channel with the same buffer and log: both hold a slot or neither, and the same of a channel. -/
def SameHoldings (p p' : Parts) : Prop :=
  p'.pb = p.pb ∧ p'.wire = p.wire ∧ p'.slot.isSome = p.slot.isSome ∧ (p'.ch = .unavailable ↔ p.ch = .unavailable)

theorem sameHoldings_invisible : Invisible SameHoldings where
  slot := fun ⟨_, _, slot, _⟩ => slot
  ch := fun ⟨_, _, _, ch⟩ => ch
  log := fun e ⟨pb, wire, slot, ch⟩ => ⟨pb, congrArg (· ++ [e]) wire, slot, ch⟩
  fill := fun _ ⟨_, wire, slot, ch⟩ => ⟨rfl, wire, slot, ch⟩
  set := fun j x ⟨pb, wire, slot, ch⟩ => ⟨congrArg (·.set j x) pb, wire, slot, ch⟩
  release := fun _ ⟨pb, wire, _, _⟩ => ⟨pb, wire, rfl, Iff.rfl⟩

/-- Settles O55: the simulation for `SameHoldings`; a state that holds a slot is past BEGIN, which only faults in it. -/
theorem drawsAreNotObservable : Obligations.DrawsAreNotObservable := by
  unfold Obligations.DrawsAreNotObservable
  intro s t k k' c' d x inv slot ht
  have held := held_of_slot inv slot
  have related : SameHoldings s.parts ⟨s.pb, s.wire, some k',
      match s.ch with | .available _ => .available c' | .unavailable => .unavailable, x, d⟩ := by
    refine ⟨rfl, rfl, by simp [State.parts, slot], ?_⟩
    cases ch : s.ch <;> simp [State.parts, ch]
  obtain ⟨p', ⟨pb, wire, slots, chans⟩, two⟩ := follows_step sameHoldings_invisible related rfl
    (fun rest => .of_next (exec_beginCmd_of_held (s := s.takeTurn.setPort rest) held)
      (exec_beginCmd_of_held (s := (s.takeTurn.setPort rest).withParts _) held) related) t ht
  refine ⟨_, two, slots, chans, ?_⟩
  simp only [State.withParts, pb, wire]
  rfl

end Sys2Proof.Machine
end

section
/-! SUPPORT. A frame on its way to the wire (44_engine_agents.md R203): the words already sent, those in the queue and those still in
the staging buffer are together the frame, from the acceptance of SHOW or SHOWASYNC until the latch. From it the guarantees of SHOW and of
SHOWASYNC followed by WAIT. -/

namespace Sys2Proof.Machine

open Sys2Proof.Safety

/-! ### The words still to be queued -/

/-- The words of the staging buffer that the sender, the channel or the host, has still to queue. -/
def State.pending (s : State) : List Word32 :=
  if s.xfer.active then s.sb.drop s.xfer.rptr.toNat
  else match s.host with
    | .pushing i _ => s.sb.drop i.toNat
    | .idle => []
    | .waitXfer => []
    | .latchWait => []

theorem pending_of_active {s : State} (active : s.xfer.active = true) : s.pending = s.sb.drop s.xfer.rptr.toNat :=
  if_pos active

theorem pending_of_pushing {s : State} (inactive : s.xfer.active = false) {i : Idx} {k : AfterPush}
    (host : s.host = .pushing i k) : s.pending = s.sb.drop i.toNat := by
  simp only [State.pending, inactive, host]
  rfl

theorem pending_of_no_sender {s : State} (inactive : s.xfer.active = false) (noPush : ∀ i k, s.host ≠ .pushing i k) :
    s.pending = [] := by
  cases host : s.host with
  | pushing i k => exact absurd host (noPush i k)
  | idle | waitXfer | latchWait =>
    simp only [State.pending, inactive, host]
    rfl

theorem sb_length {s : State} (inv : StateInv s) : s.sb.length = s.cfg.n :=
  ((memory_wf_iff s).1 inv.storage).2.1

/-- The word the channel moves is the first still to be queued. -/
theorem pending_moveWord {s : State} (inv : StateInv s) (active : s.xfer.active = true) {w : Word32}
    (word : s.readSB s.xfer.rptr.toNat = some w) : s.pending = w :: (s.moveWord w).pending := by
  obtain ⟨-, hhigh⟩ := inv_pixelCount inv
  obtain ⟨-, rem, sum, -⟩ := inv.active active
  have noPush := not_pushing_of_active inv active
  obtain ⟨lt, hw⟩ := List.getElem?_eq_some_iff.1 word
  have next : (s.xfer.rptr + 1).toNat = s.xfer.rptr.toNat + 1 := by bv_omega
  have moved := moveWord_of_active active w
  rw [pending_of_active active, List.drop_eq_getElem_cons lt, hw]
  by_cases last : s.xfer.rem - 1 = 0
  · have ends : s.sb.length ≤ s.xfer.rptr.toNat + 1 := by
      rw [sb_length inv]
      bv_omega
    have idle : (s.moveWord w).xfer.active = false := by simp only [moved, last, decide_true, Bool.not_true]
    have noPush' : ∀ i k, (s.moveWord w).host ≠ .pushing i k := by simpa only [moved] using noPush
    rw [List.drop_eq_nil_of_le ends, pending_of_no_sender idle noPush']
  · have goesOn : (s.moveWord w).xfer.active = true := by simp only [moved, last, decide_false, Bool.not_false]
    rw [pending_of_active goesOn, moved, next]

/-- The word the host pushes is the first still to be queued. -/
theorem pending_pushed {s : State} (inv : StateInv s) {i : Idx} {k : AfterPush} (host : s.host = .pushing i k) {w : Word32}
    (word : s.readSB i.toNat = some w) : s.pending = w :: (s.pushed i k w).pending := by
  obtain ⟨-, hhigh⟩ := inv_pixelCount inv
  obtain ⟨-, inactive, -⟩ := inv.pushing i k host
  obtain ⟨lt, hw⟩ := List.getElem?_eq_some_iff.1 word
  rw [pending_of_pushing inactive host, List.drop_eq_getElem_cons lt, hw, pushed_eq]
  split
  · next more =>
    have next : (i + 1).toNat = i.toNat + 1 := by bv_omega
    rw [pending_of_pushing (s := (s.pushFifo w).setPhase (.pushing (i + 1) k)) inactive rfl, next]
    rfl
  · next last =>
    have ends : s.sb.length ≤ i.toNat + 1 := by
      rw [sb_length inv]
      omega
    rw [List.drop_eq_nil_of_le ends]
    cases k with
    | thenLatch =>
      rw [pending_of_no_sender (s := ((s.pushFifo w).setEngine .ready).setPhase .latchWait) inactive (by simp)]
    | thenReturn => rw [pending_of_no_sender (s := ((s.pushFifo w).setEngine .ready).respond 0) inactive (by simp)]

/-! ### The progress of a frame -/

/-- In `u` the frame encoded in `s` is on its way: what the log has gained are the words sent and then `gaps`; the words sent, queued and
still to be queued are the frame; and there is a gap only once all are sent. -/
structure Progress (s : State) (gaps : List Event) (u : State) : Prop where
  inv : StateInv u
  safe : u.fault = none
  held : u.st ≠ .uninitialized
  cfg : u.cfg = s.cfg
  sb : u.sb = s.frameWords
  pb : u.pb = s.pb
  latches : ∀ e ∈ gaps, e = Event.latch
  words : ∃ sent, u.wire = s.wire ++ sent.map (wordEvent s) ++ gaps ∧ sent ++ u.fifo ++ u.pending = s.frameWords
  gap : gaps = [] ∨ u.fifo = [] ∧ u.pending = []

section

variable {s u : State} {gaps : List Event}

theorem Progress.takeTurn (h : Progress s gaps u) : Progress s gaps u.takeTurn :=
  { h with inv := inv_takeTurn h.inv }

/-- While words are still to be queued there has been no gap. -/
theorem Progress.no_gap (h : Progress s gaps u) {w : Word32} {l : List Word32} (pending : u.pending = w :: l) : gaps = [] := by
  rcases h.gap with none | ⟨-, nothing⟩
  · exact none
  · cases pending.symm.trans nothing

theorem Progress.xferMove (h : Progress s gaps u) (active : u.xfer.active = true) (room : u.fifo.length < u.par.fifoDepth)
    {w : Word32} (word : u.readSB u.xfer.rptr.toNat = some w) : Progress s gaps (u.moveWord w) := by
  have moved := pending_moveWord h.inv active word
  have inv := inv_moveWord h.inv active room w
  obtain ⟨sent, wire, all⟩ := h.words
  have rest : sent ++ (u.fifo ++ [w]) ++ (u.moveWord w).pending = s.frameWords := by
    rw [← all, moved]
    simp
  rw [moveWord_of_active active] at inv rest ⊢
  have held : (if u.xfer.rem - 1 = 0 then EngineState.ready else u.st) ≠ .uninitialized := by
    split
    · simp
    · exact h.held
  exact { h with inv := inv, held := held, words := ⟨sent, wire, rest⟩, gap := .inl (h.no_gap moved) }

theorem Progress.pushWord (h : Progress s gaps u) {i : Idx} {k : AfterPush} (host : u.host = .pushing i k)
    (room : u.fifo.length < u.par.fifoDepth) {w : Word32} (word : u.readSB i.toNat = some w) :
    Progress s gaps (u.pushed i k w) := by
  have moved := pending_pushed h.inv host word
  have inv := inv_pushed h.inv host room w
  obtain ⟨sent, wire, all⟩ := h.words
  have rest : sent ++ (u.fifo ++ [w]) ++ (u.pushed i k w).pending = s.frameWords := by
    rw [← all, moved]
    simp
  have held : (u.pushed i k w).st ≠ .uninitialized := by
    rw [pushed_eq]
    split
    · exact h.held
    · cases k <;> simp
  obtain ⟨st, phase, resp, form⟩ := pushed_form u i k w
  rw [form] at inv rest held ⊢
  exact { h with inv := inv, held := held, words := ⟨sent, wire, rest⟩, gap := .inl (h.no_gap moved) }

theorem Progress.shiftWord (h : Progress s gaps u) {k : Nat} (slot : u.slot = some k) {w : Word32} {q : List Word32}
    (queue : u.fifo = w :: q) :
    Progress s gaps ((u.setFifo q).logWire (.word (topBits w u.te.width) u.te.width)) := by
  have width : u.te.width = s.cfg.width := by rw [h.inv.slot_configured (by simp [slot]), ← h.cfg]
  have noGap : gaps = [] := by
    rcases h.gap with none | ⟨nothing, -⟩
    · exact none
    · cases queue.symm.trans nothing
  obtain ⟨sent, wire, all⟩ := h.words
  have log : u.wire ++ [.word (topBits w u.te.width) u.te.width] = s.wire ++ (sent ++ [w]).map (wordEvent s) ++ gaps := by
    simp [wire, noGap, width, wordEvent]
  have rest : (sent ++ [w]) ++ q ++ u.pending = s.frameWords := by
    rw [← all, queue]
    simp
  exact { h with inv := inv_shiftWord h.inv slot queue, words := ⟨sent ++ [w], log, rest⟩, gap := .inl noGap }

/-- A change of phase in which neither is a push. -/
theorem Progress.setPhase (h : Progress s gaps u) {p : Phase} (inv : StateInv (u.setPhase p))
    (before : ∀ i k, u.host ≠ .pushing i k) (after : ∀ i k, p ≠ .pushing i k) : Progress s gaps (u.setPhase p) := by
  have same : (u.setPhase p).pending = u.pending := by
    cases active : u.xfer.active with
    | true => rw [pending_of_active active, pending_of_active (s := u.setPhase p) active]; rfl
    | false => rw [pending_of_no_sender active before, pending_of_no_sender (s := u.setPhase p) active after]
  exact { h with inv := inv, words := by rw [same]; exact h.words, gap := by rw [same]; exact h.gap }

/-- A `Latch` once all words are sent: by LatchDone or IdleGap. -/
theorem Progress.logLatch (h : Progress s gaps u) (empty : u.fifo = []) (inactive : u.xfer.active = false)
    (noPush : ∀ i k, u.host ≠ .pushing i k) : Progress s (gaps ++ [.latch]) (u.logWire .latch) := by
  have nothing := pending_of_no_sender inactive noPush
  obtain ⟨sent, wire, all⟩ := h.words
  have log : u.wire ++ [.latch] = s.wire ++ sent.map (wordEvent s) ++ (gaps ++ [.latch]) := by
    rw [wire, List.append_assoc _ gaps]
  have latches : ∀ e ∈ gaps ++ [.latch], e = Event.latch := fun e he => by
    rcases List.mem_append.1 he with old | new
    · exact h.latches e old
    · exact List.mem_singleton.1 new
  exact { h with
    inv := inv_logWire h.inv .latch nofun, latches := latches, words := ⟨sent, log, all⟩, gap := .inr ⟨empty, nothing⟩ }

/-- The inputs, the response and the pipeline do not enter the progress. -/
theorem Progress.unread (h : Progress s gaps u) {v : State} (inv : StateInv v)
    (form : ∃ port bri gen gt resp, v = { u with port := port, bri := bri, gen := gen, gt := gt, resp := resp }) :
    Progress s gaps v := by
  obtain ⟨port, bri, gen, gt, resp, rfl⟩ := form
  exact { h with inv := inv }

/-- What the log holds when all words are sent. -/
theorem Progress.wire_of_done (h : Progress s gaps u) (empty : u.fifo = []) (inactive : u.xfer.active = false)
    (noPush : ∀ i k, u.host ≠ .pushing i k) : u.wire = s.wire ++ frameEvents s ++ gaps := by
  obtain ⟨sent, wire, all⟩ := h.words
  rw [empty, pending_of_no_sender inactive noPush, List.append_nil, List.append_nil] at all
  rw [wire, all]
  rfl

/-- The first state of a frame: all its words are still to be queued. -/
theorem Progress.start (inv : StateInv u) (safe : u.fault = none) (st : u.st = .transmitting) (cfg : u.cfg = s.cfg)
    (sb : u.sb = s.frameWords) (pb : u.pb = s.pb) (wire : u.wire = s.wire) (fifo : u.fifo = []) (pending : u.pending = u.sb) :
    Progress s [] u where
  inv := inv
  safe := safe
  held := by simp [st]
  cfg := cfg
  sb := sb
  pb := pb
  latches := nofun
  words := ⟨[], by simp [wire], by simp [fifo, pending, sb]⟩
  gap := .inl rfl

end

/-! ### The acceptance of SHOW and SHOWASYNC -/

/-- SHOW accepted: the frame begins, and the host waits for the channel or pushes and will then latch. -/
theorem show_starts {s v : State} (inv : StateInv s) (st : s.st = .ready) (fifo : s.fifo = []) (idle : s.host = .idle)
    (safe : s.fault = none) (h : exec .showCmd s = .next v) :
    Progress s [] v ∧ (v.host = .waitXfer ∨ v.host = .pushing 0 .thenLatch) ∧
      v.port = s.port ∧ v.bri = s.bri ∧ v.gen = s.gen ∧ v.gt = s.gt := by
  have held : s.st ≠ .uninitialized := by simp [st]
  have inactive := inactive_of_ready inv st
  have inv' := inv_command inv idle (exec_effect _ _ _ h)
  cases ch : s.ch with
  | available c =>
    cases (exec_showCmd_of_channel held inactive ch).symm.trans h
    exact ⟨.start inv' safe rfl rfl rfl rfl rfl fifo rfl, .inl rfl, rfl, rfl, rfl, rfl⟩
  | unavailable =>
    cases (exec_showCmd_of_no_channel held inactive ch).symm.trans h
    have first := pending_of_pushing (s := (s.encodeFrame.setEngine .transmitting).setPhase (.pushing 0 .thenLatch)) inactive rfl
    exact ⟨.start inv' safe rfl rfl rfl rfl rfl fifo first, .inr rfl, rfl, rfl, rfl, rfl⟩

/-- SHOWASYNC accepted: the frame begins, and the host is idle or pushes and will then return. -/
theorem showasync_starts {s v : State} (inv : StateInv s) (st : s.st = .ready) (fifo : s.fifo = []) (idle : s.host = .idle)
    (safe : s.fault = none) (h : exec .showasync s = .next v) :
    Progress s [] v ∧ (v.host = .idle ∨ v.host = .pushing 0 .thenReturn) ∧ v.port = s.port := by
  have held : s.st ≠ .uninitialized := by simp [st]
  have inactive := inactive_of_ready inv st
  have inv' := inv_command inv idle (exec_effect _ _ _ h)
  cases ch : s.ch with
  | available c =>
    cases (exec_showasync_of_channel held inactive ch).symm.trans h
    exact ⟨.start inv' safe rfl rfl rfl rfl rfl fifo rfl, .inl rfl, rfl⟩
  | unavailable =>
    cases (exec_showasync_of_no_channel held inactive ch).symm.trans h
    have first := pending_of_pushing (s := (s.encodeFrame.setEngine .transmitting).setPhase (.pushing 0 .thenReturn)) inactive rfl
    exact ⟨.start inv' safe rfl rfl rfl rfl rfl fifo first, .inr rfl, rfl⟩

/-! ### The host held until the latch -/

/-- The host is held in a phase that ends with `LatchDone`. -/
def HeldToLatch (u : State) : Prop :=
  u.host = .waitXfer ∨ u.host = .latchWait ∨ ∃ i, u.host = .pushing i .thenLatch

theorem HeldToLatch.not_idle {u : State} (h : HeldToLatch u) : u.host ≠ .idle := by
  rcases h with h | h | ⟨i, h⟩ <;> simp [h]

/-- Neither the port nor the pipeline's registers have changed. -/
def SameSettings (u v : State) : Prop := v.port = u.port ∧ v.bri = u.bri ∧ v.gen = u.gen ∧ v.gt = u.gt

theorem SameSettings.trans {u v w : State} (h : SameSettings u v) (h' : SameSettings v w) : SameSettings u w := by
  obtain ⟨port, bri, gen, gt⟩ := h
  obtain ⟨port', bri', gen', gt'⟩ := h'
  exact ⟨port'.trans port, bri'.trans bri, gen'.trans gen, gt'.trans gt⟩

/-- What the completion of the command that the host is held in leaves. -/
structure Latched (s : State) (gaps : List Event) (v : State) : Prop where
  progress : Progress s (gaps ++ [.latch]) v
  idle : v.host = .idle
  resp : v.resp = 0
  fifo : v.fifo = []
  inactive : v.xfer.active = false

/-- A turn while the host is held: the frame goes on, or the latch completes the command. -/
theorem held_turn {s u v : State} {gaps : List Event} {a : Agent} (h : Progress s gaps u) (held : HeldToLatch u)
    (effect : TurnEffect a u v) :
    SameSettings u v ∧ (Progress s gaps v ∧ HeldToLatch v ∨ Latched s gaps v) := by
  cases effect with
  | stutter eq =>
    subst eq
    exact ⟨⟨rfl, rfl, rfl, rfl⟩, .inl ⟨h, held⟩⟩
  | command _ _ _ _ idle | reserved _ _ _ _ idle | idleGap _ _ idle => exact absurd idle held.not_idle
  | waitXferDone by_ host ready eq =>
    have inv := inv_turn h.inv (.waitXferDone by_ host ready eq)
    subst eq
    exact ⟨⟨rfl, rfl, rfl, rfl⟩, .inl ⟨h.setPhase inv (by simp [host]) (by simp), .inr (.inl rfl)⟩⟩
  | pushWord i k w _ host room word eq =>
    have latch : k = .thenLatch := by
      rcases held with h' | h' | ⟨j, h'⟩ <;> cases host.symm.trans h'
      rfl
    have progress := h.pushWord host room word
    have goesOn : HeldToLatch (u.pushed i k w) := by
      rw [pushed_eq, latch]
      split
      · exact .inr (.inr ⟨i + 1, rfl⟩)
      · exact .inr (.inl rfl)
    obtain ⟨st, phase, resp, form⟩ := pushed_form u i k w
    rw [← eq] at progress goesOn
    exact ⟨by rw [eq, form]; exact ⟨rfl, rfl, rfl, rfl⟩, .inl ⟨progress, goesOn⟩⟩
  | latchDone by_ host empty eq =>
    have inactive := inactive_of_latchWait h.inv host
    have logged := h.logLatch empty inactive (by simp [host])
    have inv := inv_turn h.inv (.latchDone by_ host empty eq)
    subst eq
    have idle := logged.setPhase (p := .idle)
      (inv_setPhase logged.inv .idle logged.held (by simp [host]) (by simp) (fun _ => .inl rfl)) (by simp [host]) (by simp)
    exact ⟨⟨rfl, rfl, rfl, rfl⟩, .inr ⟨idle.unread inv ⟨_, _, _, _, _, rfl⟩, rfl, rfl, empty, inactive⟩⟩
  | xferMove w _ active room word eq =>
    have progress := h.xferMove active room word
    have goesOn : HeldToLatch (u.moveWord w) := by
      rw [moveWord_of_active active]
      exact held
    rw [← eq] at progress goesOn
    exact ⟨by rw [eq, moveWord_of_active active]; exact ⟨rfl, rfl, rfl, rfl⟩, .inl ⟨progress, goesOn⟩⟩
  | shiftWord k w q _ slot queue eq =>
    subst eq
    exact ⟨⟨rfl, rfl, rfl, rfl⟩, .inl ⟨h.shiftWord slot queue, held⟩⟩

/-- A run until the held host is idle for the first time with its port untouched. -/
theorem held_run {s t : State} {gaps : List Event} (k : Nat) {u : State} (h : Progress s gaps u) (held : HeldToLatch u)
    (run : After k u t) (idle : t.host = .idle)
    (first : ∀ j w, j < k → After j u w → w.port = u.port → w.host ≠ .idle) : Latched s gaps t ∧ SameSettings u t := by
  induction k generalizing u with
  | zero =>
    cases run
    exact absurd idle held.not_idle
  | succ k ih =>
    obtain ⟨v, one, rest⟩ := run_succ_inv k u t run
    obtain ⟨settings, progress⟩ := held_turn h.takeTurn held (step_effect u v one).2
    rcases progress with ⟨progress, held'⟩ | done
    · obtain ⟨latched, settings'⟩ := ih progress held' rest fun j w lt after port =>
        first (j + 1) w (Nat.succ_lt_succ lt) ((run_succ j u v one).trans after) (port.trans settings.1)
      exact ⟨latched, settings.trans settings'⟩
    · cases k with
      | zero =>
        cases rest
        exact ⟨done, settings⟩
      | succ k => exact absurd done.idle (first 1 v (by omega) (run_succ 0 u v one) settings.1)

/-- When the command has completed, the frame and the gaps are on the wire and the engine is ready. -/
theorem Latched.wire_and_ready {s t : State} {gaps : List Event} (h : Latched s gaps t) :
    t.wire = s.wire ++ frameEvents s ++ gaps ++ [.latch] ∧ t.st = .ready := by
  have wire := h.progress.wire_of_done h.fifo h.inactive (by simp [h.idle])
  exact ⟨wire.trans (List.append_assoc ..).symm, ready_of_idle h.progress.inv h.progress.held h.idle h.inactive⟩

/-! ### The guarantee of SHOW -/

/-- A legal strip has a pixel, so its frame has a word. -/
theorem frameEvents_ne_nil {s : State} (inv : StateInv s) : frameEvents s ≠ [] := by
  obtain ⟨hlow, -⟩ := inv_pixelCount inv
  obtain ⟨hpb, -⟩ := (memory_wf_iff s).1 inv.storage
  refine List.ne_nil_of_length_pos ?_
  rw [frameEvents, List.length_map, frameWords_length]
  omega

theorem latch_notMem_frameEvents (s : State) : Event.latch ∉ frameEvents s := by
  simp [frameEvents, wordEvent]

/-- Settles O51: SHOW starts the frame (`show_starts`), the host is held until the latch (`held_run`), and the frames are cut there. -/
theorem showGuarantee : Obligations.ShowGuarantee := by
  unfold Obligations.ShowGuarantee
  rintro s t k inv st fifo ready moves ⟨cw, rest, port, legal⟩ pos run idle first
  obtain ⟨idle0, safe⟩ := (cmdReady_iff s).1 ready
  obtain ⟨k, rfl⟩ := Nat.exists_eq_succ_of_ne_zero pos.ne'
  obtain ⟨v, one, run'⟩ := run_succ_inv k s t run
  have accepted := one
  rw [step_of_ready ready moves port, accept_of_decode legal] at accepted
  obtain ⟨progress, phase, -, bri, gen, gt⟩ := show_starts (inv_setPort (inv_takeTurn inv) rest) st fifo idle0 safe accepted
  have held : HeldToLatch v := phase.imp id fun h => .inr ⟨0, h⟩
  obtain ⟨done, -, bri', gen', gt'⟩ := held_run k progress held run' idle fun j w lt after _ =>
    first (j + 1) w (Nat.succ_pos j) (Nat.succ_lt_succ lt) ((run_succ j s v one).trans after)
  obtain ⟨wire, engine⟩ := done.wire_and_ready
  have wire' : t.wire = s.wire ++ frameEvents s ++ [.latch] := by
    rw [List.append_nil] at wire
    exact wire
  refine ⟨wire', engine, done.inactive, done.fifo, done.resp, done.progress.pb, bri'.trans bri, gen'.trans gen, gt'.trans gt,
    done.progress.safe, fun closed => ?_⟩
  rw [wire', List.append_assoc, frames_append closed, frames_piece_latch (frameEvents_ne_nil inv) (latch_notMem_frameEvents s)]

/-! ### SHOWASYNC and then WAIT -/

/-- Between SHOWASYNC and WAIT: the host is idle or pushes and will then return, and has still to send `mid`, WAIT and `rest`. -/
structure Between (s : State) (mid : List Cmd) (waitCw : Cmd) (rest : List Cmd) (u : State) : Prop where
  progress : ∃ gaps, Progress s gaps u
  phase : u.host = .idle ∨ ∃ i, u.host = .pushing i .thenReturn
  port : u.port = mid ++ waitCw :: rest

/-- The words allowed between SHOWASYNC and WAIT. -/
def AllowedBetween (cw : Cmd) : Prop :=
  ∃ i, decode cw = .ok i ∧ i.mnemonic ∈ [Mnemonic.busy, .size, .setbrightness, .enablegamma]

/-- The commands allowed between: they write the response and the pipeline's registers at most. -/
theorem between_command {i : Instr} {u v : State} (hi : i.mnemonic ∈ [Mnemonic.busy, .size, .setbrightness, .enablegamma])
    (idle : u.host = .idle) (h : exec i u = .next v) :
    ∃ bri gen gt resp, v = { u with bri := bri, gen := gen, gt := gt, resp := resp } := by
  cases i with
  | busy | size =>
    cases h
    exact ⟨_, _, _, _, respond_of_idle idle _⟩
  | setbrightness b =>
    cases h
    exact ⟨_, _, _, _, respond_of_idle (s := u.setBri b) idle 0⟩
  | enablegamma on =>
    cases h
    exact ⟨_, _, _, _, respond_of_idle (s := u.setGamma on) idle 0⟩
  | _ => simp [Instr.mnemonic] at hi

section

variable {s u v : State} {mid rest : List Cmd} {waitCw : Cmd}

/-- An agent's step between SHOWASYNC and WAIT: the frame goes on, or a gap follows it. -/
theorem between_agent (h : Between s mid waitCw rest u) {a : Agent} (effect : TurnEffect a u v)
    (agent : ¬(a = .host ∧ u.host = .idle)) : Between s mid waitCw rest v := by
  obtain ⟨⟨gaps, progress⟩, phase, port⟩ := h
  cases effect with
  | stutter eq =>
    subst eq
    exact ⟨⟨gaps, progress⟩, phase, port⟩
  | command _ _ _ by_ idle | reserved _ _ _ by_ idle => exact absurd ⟨by_, idle⟩ agent
  | waitXferDone _ held | latchDone _ held => rcases phase with h | ⟨i, h⟩ <;> cases held.symm.trans h
  | pushWord i k w _ host room word eq =>
    have returns : k = .thenReturn := by
      rcases phase with h | ⟨j, h⟩ <;> cases host.symm.trans h
      rfl
    have progress' := progress.pushWord host room word
    have phase' : (u.pushed i k w).host = .idle ∨ ∃ j, (u.pushed i k w).host = .pushing j .thenReturn := by
      rw [pushed_eq, returns]
      split
      · exact .inr ⟨i + 1, rfl⟩
      · exact .inl rfl
    obtain ⟨st, p, resp, form⟩ := pushed_form u i k w
    rw [← eq] at progress' phase'
    exact ⟨⟨gaps, progress'⟩, phase', by rw [eq, form]; exact port⟩
  | xferMove w _ active room word eq =>
    have progress' := progress.xferMove active room word
    rw [moveWord_of_active active] at progress' eq
    subst eq
    exact ⟨⟨gaps, progress'⟩, phase, port⟩
  | shiftWord k w q _ slot queue eq =>
    subst eq
    exact ⟨⟨gaps, progress.shiftWord slot queue⟩, phase, port⟩
  | idleGap _ _ idle inactive empty eq =>
    subst eq
    exact ⟨⟨_, progress.logLatch empty inactive (by simp [idle])⟩, phase, port⟩

/-- A step between SHOWASYNC and WAIT: an agent's, one of the commands allowed, or the acceptance of WAIT. -/
theorem between_step (h : Between s mid waitCw rest u) (isWait : decode waitCw = .ok .wait)
    (allowed : ∀ cw ∈ mid, AllowedBetween cw)
    (one : step u = .next v) :
    (∃ mid', (∀ cw ∈ mid', cw ∈ mid) ∧ Between s mid' waitCw rest v) ∨
      (∃ gaps, Progress s gaps v) ∧ v.host = .waitXfer ∧ v.port = rest := by
  by_cases accepts : u.nextAgent = .host ∧ u.host = .idle
  · obtain ⟨moves, idle⟩ := accepts
    obtain ⟨⟨gaps, progress⟩, -, port⟩ := h
    have ready : u.cmdReady = true := (cmdReady_iff u).2 ⟨idle, progress.safe⟩
    have sent : ∀ cws, Progress s gaps (u.takeTurn.setPort cws) := fun cws =>
      progress.takeTurn.unread (inv_setPort (inv_takeTurn progress.inv) cws) ⟨_, _, _, _, _, rfl⟩
    cases mid with
    | nil =>
      rw [step_of_ready ready moves port, accept_of_decode isWait, exec_wait_of_held (by exact progress.held)] at one
      cases one
      have inv := inv_setPhase (sent rest).inv .waitXfer progress.held (by simp [idle]) (by simp) (fun _ => .inr rfl)
      exact .inr ⟨⟨gaps, (sent rest).setPhase inv (by simp [idle]) (by simp)⟩, rfl, rfl⟩
    | cons cw mid' =>
      obtain ⟨i, legal, hi⟩ := allowed cw List.mem_cons_self
      rw [step_of_ready ready moves port, accept_of_decode legal] at one
      have inv := inv_command (sent _).inv idle (exec_effect _ _ _ one)
      obtain ⟨bri, gen, gt, resp, rfl⟩ := between_command hi (by exact idle) one
      exact .inl ⟨mid', fun c => List.mem_cons_of_mem cw,
        ⟨gaps, (sent _).unread inv ⟨_, _, _, _, _, rfl⟩⟩, .inl idle, rfl⟩
  · have before : Between s mid waitCw rest u.takeTurn := by
      obtain ⟨⟨gaps, progress⟩, phase, port⟩ := h
      exact ⟨⟨gaps, progress.takeTurn⟩, phase, port⟩
    exact .inl ⟨mid, fun _ => id, between_agent before (step_effect u v one).2 accepts⟩

end

/-- A run from between SHOWASYNC and WAIT until WAIT has completed. -/
theorem between_run {s t : State} {waitCw : Cmd} {rest : List Cmd} (isWait : decode waitCw = .ok .wait) (k : Nat)
    {mid : List Cmd} {u : State} (h : Between s mid waitCw rest u)
    (allowed : ∀ cw ∈ mid, AllowedBetween cw)
    (run : After k u t) (port : t.port = rest) (idle : t.host = .idle)
    (first : ∀ j w, j < k → After j u w → w.port = rest → w.host ≠ .idle) : ∃ gaps, Latched s gaps t := by
  induction k generalizing u mid with
  | zero =>
    cases run
    have lengths := congrArg List.length (h.port.symm.trans port)
    simp at lengths
    omega
  | succ k ih =>
    obtain ⟨v, one, run'⟩ := run_succ_inv k u t run
    have first' : ∀ j w, j < k → After j v w → w.port = rest → w.host ≠ .idle := fun j w lt after =>
      first (j + 1) w (Nat.succ_lt_succ lt) ((run_succ j u v one).trans after)
    rcases between_step h isWait allowed one with ⟨mid', sub, h'⟩ | ⟨⟨gaps, progress⟩, waits, sent⟩
    · exact ih h' (fun cw hcw => allowed cw (sub cw hcw)) run' first'
    · exact ⟨gaps, (held_run k progress (.inl waits) run' idle fun j w lt after same =>
        first' j w lt after (same.trans sent)).1⟩

/-- Settles O53: SHOWASYNC starts the frame (`showasync_starts`), it goes on until WAIT is accepted, and then as in SHOW. -/
theorem showasyncThenWaitGuarantee : Obligations.ShowasyncThenWaitGuarantee := by
  unfold Obligations.ShowasyncThenWaitGuarantee
  intro s t k asyncCw waitCw mid rest inv st fifo ready port isAsync isWait allowed moves run tport idle first
  obtain ⟨idle0, safe⟩ := (cmdReady_iff s).1 ready
  cases k with
  | zero =>
    cases run
    have lengths := congrArg List.length (port.symm.trans tport)
    simp at lengths
    omega
  | succ k =>
    obtain ⟨v, one, run'⟩ := run_succ_inv k s t run
    have accepted := one
    rw [step_of_ready ready moves port, accept_of_decode isAsync] at accepted
    obtain ⟨progress, phase, port'⟩ := showasync_starts (inv_setPort (inv_takeTurn inv) _) st fifo idle0 safe accepted
    obtain ⟨gaps, done⟩ := between_run isWait k ⟨⟨[], progress⟩, phase.imp id fun h => ⟨0, h⟩, port'⟩ allowed run' tport idle
      fun j w lt after => first (j + 1) w (Nat.succ_lt_succ lt) ((run_succ j s v one).trans after)
    obtain ⟨wire, engine⟩ := done.wire_and_ready
    have latches : ∀ e ∈ gaps, e = Event.latch := fun e he => done.progress.latches e (List.mem_append_left _ he)
    exact ⟨gaps, latches, wire, engine, done.inactive, done.fifo, done.resp, done.progress.pb, done.progress.safe⟩

end Sys2Proof.Machine
end

section
/-! SUPPORT. A command in progress completes (44_engine_agents.md R199): a measure of the work left that no turn increases and that the
turn of one agent decreases, and the obligation about fair schedules. -/

namespace Sys2Proof.Machine

open Sys2Proof.Safety

/-! ### The work left -/

/-- How many steps a phase takes to end once its frame is on the wire. -/
def Phase.weight : Phase → Nat
  | .idle => 0
  | .pushing _ _ => 1
  | .waitXfer => 2
  | .latchWait => 1

theorem Phase.weight_le (p : Phase) : p.weight ≤ 2 := by
  cases p <;> simp [Phase.weight]

/-- The work left: a word to be queued counts twice, since it is queued and then shifted. -/
def State.work (s : State) : Nat := 2 * s.pending.length + s.fifo.length + s.host.weight

/-- Whose turn makes progress: the timing engine's while words are queued, else the channel's while it sends, else the host's. -/
def State.productive (s : State) : Agent :=
  if s.fifo ≠ [] then .engine else if s.xfer.active then .channel else .host

/-- An unfaulted state of the invariant with the host held in a command. -/
structure InCommand (u : State) : Prop where
  inv : StateInv u
  safe : u.fault = none
  held : u.host ≠ .idle

theorem work_le {s : State} (inv : StateInv s) : s.work ≤ 2 * s.cfg.n + s.fifo.length + 2 := by
  have pending : s.pending.length ≤ s.cfg.n := by
    rw [← sb_length inv, State.pending]
    split
    · simp
    · split <;> simp
  have weight := s.host.weight_le
  rw [State.work]
  omega

section

variable {u : State}

theorem work_moveWord (inv : StateInv u) (active : u.xfer.active = true) {w : Word32}
    (word : u.readSB u.xfer.rptr.toNat = some w) : (u.moveWord w).work < u.work := by
  have fifo : (u.moveWord w).fifo.length = u.fifo.length + 1 := by simp [moveWord_of_active active]
  have host : (u.moveWord w).host = u.host := by rw [moveWord_of_active active]
  rw [State.work, State.work, pending_moveWord inv active word, List.length_cons, fifo, host]
  omega

theorem work_pushed (inv : StateInv u) {i : Idx} {k : AfterPush} (host : u.host = .pushing i k) {w : Word32}
    (word : u.readSB i.toNat = some w) : (u.pushed i k w).work < u.work := by
  have fifo : (u.pushed i k w).fifo.length = u.fifo.length + 1 := by
    obtain ⟨st, phase, resp, form⟩ := pushed_form u i k w
    simp [form]
  have weight : (u.pushed i k w).host.weight ≤ 1 := by
    rw [pushed_eq]
    split
    · exact le_rfl
    · cases k with
      | thenLatch => exact le_rfl
      | thenReturn => exact Nat.zero_le 1
  have before : u.host.weight = 1 := by rw [host]; rfl
  rw [State.work, State.work, pending_pushed inv host word, List.length_cons, fifo, before]
  omega

theorem work_shiftWord {w : Word32} {q : List Word32} (queue : u.fifo = w :: q) (e : Event) :
    ((u.setFifo q).logWire e).work < u.work := by
  have pending : ((u.setFifo q).logWire e).pending = u.pending := rfl
  simp only [State.work, pending, queue, State.logWire_fifo, State.setFifo_fifo, State.logWire_host, State.setFifo_host,
    List.length_cons]
  omega

theorem work_waitXferDone (host : u.host = .waitXfer) (inactive : u.xfer.active = false) :
    (u.setPhase .latchWait).work < u.work := by
  have before := pending_of_no_sender inactive (by simp [host])
  have after := pending_of_no_sender (s := u.setPhase .latchWait) inactive (by simp)
  simp [State.work, before, after, host, Phase.weight]

theorem work_latchDone (host : u.host = .latchWait) (inactive : u.xfer.active = false) :
    ((u.logWire .latch).respond 0).work < u.work := by
  have before := pending_of_no_sender inactive (by simp [host])
  have after := pending_of_no_sender (s := (u.logWire .latch).respond 0) inactive (by simp)
  rw [State.work, State.work, before, after]
  simp [host, Phase.weight]

/-! ### A turn -/

/-- A turn while the host is held moves nothing or does some of the work, and a command that completes in it responds 0. -/
theorem work_turn (h : InCommand u) {a : Agent} {v : State} (effect : TurnEffect a u v) :
    (v = u ∨ v.work < u.work) ∧ (v.host = .idle → v.resp = 0) := by
  cases effect with
  | stutter eq => exact ⟨.inl eq, fun idle => absurd (eq ▸ idle) h.held⟩
  | command _ _ _ _ idle | reserved _ _ _ _ idle | idleGap _ _ idle => exact absurd idle h.held
  | waitXferDone _ host ready eq =>
    subst eq
    exact ⟨.inr (work_waitXferDone host (inactive_of_channel_done h.inv ready)), nofun⟩
  | pushWord i k w _ host _ word eq =>
    subst eq
    refine ⟨.inr (work_pushed h.inv host word), ?_⟩
    rw [pushed_eq]
    split
    · exact nofun
    · cases k with
      | thenLatch => exact nofun
      | thenReturn => exact fun _ => rfl
  | latchDone _ host _ eq =>
    subst eq
    exact ⟨.inr (work_latchDone host (inactive_of_latchWait h.inv host)), fun _ => rfl⟩
  | xferMove w _ active _ word eq =>
    subst eq
    exact ⟨.inr (work_moveWord h.inv active word), fun idle => by
      rw [moveWord_of_active active] at idle
      exact absurd idle h.held⟩
  | shiftWord k w q _ _ queue eq =>
    subst eq
    exact ⟨.inr (work_shiftWord queue _), fun idle => absurd idle h.held⟩

/-- R6, R197: an empty queue has room. -/
theorem room_of_empty (inv : StateInv u) (empty : u.fifo = []) : u.fifo.length < u.par.fifoDepth := by
  obtain ⟨legal, -⟩ := inv.legal
  simp only [Params.wf, Bool.and_eq_true, decide_eq_true_eq] at legal
  rw [empty, List.length_nil]
  omega

/-- The turn of the productive agent does some of the work: its step is enabled. -/
theorem productive_turn (h : InCommand u) : ∃ v, agentTurn u.productive u = .next v ∧ v.work < u.work := by
  have inv := h.inv
  have enabled : ∀ {step : Option State} {v : State}, step = some v → turnOf step u = .next v := fun h => by rw [h]; rfl
  cases queue : u.fifo with
  | cons w q =>
    have agent : u.productive = .engine := by simp [State.productive, queue]
    obtain ⟨k, slot⟩ := Option.ne_none_iff_exists'.1 (inv.slot_none.not.1 (held_of_host inv h.held))
    rw [agent]
    exact ⟨_, enabled ((shiftWord_some _ _).2 ⟨k, w, q, slot, queue, rfl⟩), work_shiftWord queue _⟩
  | nil =>
    have room := room_of_empty inv queue
    cases active : u.xfer.active with
    | true =>
      have agent : u.productive = .channel := by simp [State.productive, queue, active]
      obtain ⟨-, rem, sum, -⟩ := inv.active active
      have word := List.getElem?_eq_getElem (l := u.sb) (i := u.xfer.rptr.toNat) (by rw [sb_length inv]; omega)
      rw [agent]
      exact ⟨_, enabled ((xferMove_some _ _).2 ⟨active, room, _, word, rfl⟩), work_moveWord inv active word⟩
    | false =>
      have agent : u.productive = .host := by simp [State.productive, queue, active]
      rw [agent, show agentTurn .host u = turnOf u.heldStep u from hostTurn_of_held h.held]
      cases host : u.host with
      | idle => exact absurd host h.held
      | pushing i k =>
        obtain ⟨-, -, lt⟩ := inv.pushing i k host
        have word := List.getElem?_eq_getElem (l := u.sb) (i := i.toNat) (by rw [sb_length inv]; exact lt)
        have step := (pushWord_some _ _).2 ⟨i, k, _, host, room, word, rfl⟩
        exact ⟨_, enabled (by simpa only [State.heldStep, host] using step), work_pushed inv host word⟩
      | waitXfer =>
        have step := (waitXferDone_some _ _).2 ⟨host, .inr active, rfl⟩
        exact ⟨_, enabled (by simpa only [State.heldStep, host] using step), work_waitXferDone host active⟩
      | latchWait =>
        have step := (latchDone_some _ _).2 ⟨host, queue, rfl⟩
        exact ⟨_, enabled (by simpa only [State.heldStep, host] using step), work_latchDone host active⟩

end

/-! ### Runs along a schedule -/

/-- The command in progress completes within `m` steps, without a fault and with response 0. -/
def Completes (u : State) (m : Nat) : Prop := ∃ k t, k ≤ m ∧ FirstIdle k u t ∧ t.fault = none ∧ t.resp = 0

theorem InCommand.takeTurn {u : State} (h : InCommand u) : InCommand u.takeTurn := ⟨inv_takeTurn h.inv, h.safe, h.held⟩

theorem FirstIdle.step {k : Nat} {u v t : State} (one : Machine.step u = .next v) (held : u.host ≠ .idle)
    (h : FirstIdle k v t) : FirstIdle (k + 1) u t := by
  obtain ⟨run, idle, first⟩ := h
  refine ⟨(run_succ k u v one).trans run, idle, fun j w lt after => ?_⟩
  cases j with
  | zero =>
    cases after
    exact held
  | succ j => exact first j w (Nat.lt_of_succ_lt_succ lt) ((run_succ j u v one).symm.trans after)

/-- A step in a command: it completes, or goes on with no more work, and with less if the productive agent moved. -/
theorem step_inCommand {u : State} (h : InCommand u) :
    ∃ v, step u = .next v ∧ v.sched = u.sched.tail ∧ v.fault = none ∧ StateInv v ∧ (v.host = .idle → v.resp = 0) ∧
      (v = u.takeTurn ∧ u.nextAgent ≠ u.productive ∨ v.work < u.work) := by
  obtain ⟨v, one⟩ := step_next u h.safe
  obtain ⟨-, effect⟩ := step_effect u v one
  obtain ⟨moved, resp⟩ := work_turn h.takeTurn effect
  obtain ⟨-, -, sched, -⟩ := effect.keeps_inputs
  have safe : v.fault = none := Option.eq_none_iff_forall_ne_some.2 fun f hf => by
    obtain ⟨-, idle, -⟩ := effect.fault_cases h.safe hf
    exact h.held idle
  refine ⟨v, one, sched, safe, inv_turn (inv_takeTurn h.inv) effect, resp, ?_⟩
  by_cases productive : u.nextAgent = u.productive
  · obtain ⟨w, turn, less⟩ := productive_turn h.takeTurn
    have same : w = v := by
      have turn' : step u = .next w := by
        rw [step_of_safe u h.safe, productive]
        exact turn
      exact Host.Outcome.next.inj (turn'.symm.trans one)
    exact .inr (same ▸ less)
  · exact moved.imp (⟨·, productive⟩) id

/-- Along the turns `turns` a command completes, or it goes on after them with no more work, and with less if the agent that was
productive before them is one of them. -/
theorem completes_of_turns (turns rest : List Agent) (m : Nat) {u : State} (h : InCommand u) (sched : u.sched = turns ++ rest)
    (goesOn : ∀ w, InCommand w → w.sched = rest → w.work ≤ u.work → (u.productive ∈ turns → w.work < u.work) →
      Completes w m) : Completes u (turns.length + m) := by
  induction turns generalizing u with
  | nil => simpa using goesOn u h sched le_rfl (by simp)
  | cons a turns ih =>
    obtain ⟨v, one, tail, safe, inv, resp, moved⟩ := step_inCommand h
    have moves : u.nextAgent = a := by simp [State.nextAgent, sched]
    have sched' : v.sched = turns ++ rest := by simp [tail, sched]
    by_cases idle : v.host = .idle
    · refine ⟨1, v, by simp; omega, ?_, safe, resp idle⟩
      exact FirstIdle.step one h.held ⟨rfl, idle, fun j w lt => absurd lt (Nat.not_lt_zero j)⟩
    · have after : Completes v (turns.length + m) := by
        refine ih ⟨inv, safe, idle⟩ sched' fun w hw hsched le less => ?_
        rcases moved with ⟨stays, other⟩ | lt
        · have same : v.work = u.work ∧ v.productive = u.productive := by rw [stays]; exact ⟨rfl, rfl⟩
          rw [same.1] at le less
          rw [same.2] at less
          refine goesOn w hw hsched le fun mem => less ?_
          rcases List.mem_cons.1 mem with here | later
          · exact absurd (moves.trans here.symm) other
          · exact later
        · exact goesOn w hw hsched (le.trans lt.le) fun _ => le.trans_lt lt
      obtain ⟨k, t, le, first, done⟩ := after
      exact ⟨k + 1, t, by simp; omega, FirstIdle.step one h.held first, done⟩

/-- A fair round contains a turn of the productive agent. -/
theorem productive_mem_round {turns : List Agent} (fair : Round turns) (u : State) : u.productive ∈ turns := by
  obtain ⟨host, channel, engine⟩ := fair
  rw [State.productive]
  split
  · exact engine
  · split
    · exact channel
    · exact host

/-- Each fair round does some of the work, so with more rounds than work the command completes. -/
theorem completes_of_rounds (rounds : List (List Agent)) (rest : List Agent) {u : State} (h : InCommand u)
    (fair : ∀ r ∈ rounds, Round r) (sched : u.sched = rounds.flatten ++ rest) (enough : u.work < rounds.length) :
    Completes u rounds.flatten.length := by
  induction rounds generalizing u with
  | nil => exact absurd enough (Nat.not_lt_zero _)
  | cons r rounds ih =>
    have sched' : u.sched = r ++ (rounds.flatten ++ rest) := by simpa using sched
    rw [List.flatten_cons, List.length_append]
    refine completes_of_turns r _ _ h sched' fun w hw hsched _ less => ?_
    have less := less (productive_mem_round (fair r List.mem_cons_self) u)
    rw [List.length_cons] at enough
    exact ih hw (fun r' hr' => fair r' (List.mem_cons_of_mem r hr')) hsched (by omega)

/-- Settles O52: the work left is at most two for each word, one for each word queued, and two. -/
theorem heldCommandCompletes : Obligations.HeldCommandCompletes := by
  unfold Obligations.HeldCommandCompletes
  intro s rounds rest inv safe held fair sched enough
  have work := work_le inv
  exact completes_of_rounds rounds rest ⟨inv, safe, held⟩ fair sched (by omega)

end Sys2Proof.Machine
end

section
/-! SUPPORT. Several blocks on one platform (60_exceptions.md R244): what the step of one of them does to the shared claims, and the
obligation that nothing is held twice. -/

namespace Sys2Proof.Machine

open Sys2Proof.Safety

/-! ### The claims of one block -/

/-- What a block's step may do to the claims: what it holds afterwards it held before or was free, and is claimed; and the claims
of what it did not hold stay. -/
structure ClaimStep (s t : State) : Prop where
  cfg : t.cfg = s.cfg
  par : t.par = s.par
  wf : ∀ p, s.plat.wf p = true → t.plat.wf p = true
  slot : ∀ k, t.slot = some k →
    t.plat.slotBit s.cfg.block k = true ∧ (s.slot = some k ∨ s.plat.slotBit s.cfg.block k = false)
  chan : ∀ c, t.ch = .available c → t.plat.chanBit c = true ∧ (s.ch = .available c ∨ s.plat.chanBit c = false)
  slot_stays : ∀ b k, s.plat.slotBit b k = true → b ≠ s.cfg.block ∨ s.slot ≠ some k → t.plat.slotBit b k = true
  chan_stays : ∀ c, s.plat.chanBit c = true → s.ch ≠ .available c → t.plat.chanBit c = true

/-- A legal block that claims its slot itself, and what it holds is claimed. -/
structure ClaimsItself (s : State) : Prop where
  cfg : s.cfg.wf s.par = true
  plat : s.plat.wf s.par = true
  auto : s.cfg.slotReq = -1
  slot : ∀ k, s.slot = some k → s.plat.slotBit s.cfg.block k = true
  chan : ∀ c, s.ch = .available c → s.plat.chanBit c = true

section

variable {s t : State}

/-- A step that touches neither the platform nor what is held of it. -/
theorem ClaimStep.of_same (h : ClaimsItself s) (cfg : t.cfg = s.cfg) (par : t.par = s.par) (plat : t.plat = s.plat)
    (slot : t.slot = s.slot) (ch : t.ch = s.ch) : ClaimStep s t where
  cfg := cfg
  par := par
  wf := fun p hp => plat ▸ hp
  slot := fun k hk => by
    rw [slot] at hk
    exact ⟨plat ▸ h.slot k hk, .inl hk⟩
  chan := fun c hc => by
    rw [ch] at hc
    exact ⟨plat ▸ h.chan c hc, .inl hc⟩
  slot_stays := fun b k hb _ => plat ▸ hb
  chan_stays := fun c hc _ => plat ▸ hc

theorem ClaimStep.begins (h : ClaimsItself s) (effect : BeginEffect s t) : ClaimStep s t := by
  obtain ⟨-, -, -, hblock, -⟩ := (cfg_wf_iff ..).1 h.cfg
  cases effect with
  | violation _ eq | noProgram _ _ _ eq =>
    subst eq
    exact .of_same h rfl rfl rfl rfl rfl
  | noSlot x d _ loads _ _ eq =>
    subst eq
    exact {
      cfg := rfl
      par := rfl
      wf := fun p => loads.wf
      slot := fun k hk => ⟨(loads.slotBit_eq _ k).trans (h.slot k hk), .inl hk⟩
      chan := fun c hc => ⟨(loads.chanBit_eq c).trans (h.chan c hc), .inl hc⟩
      slot_stays := fun b k hb _ => (loads.slotBit_eq b k).trans hb
      chan_stays := fun c hc _ => (loads.chanBit_eq c).trans hc }
  | success x y k d ch xfer _ loads chosen channel eq =>
    have claims : ClaimsTo s x y k ch xfer := channel
    have hx := loads.wf h.plat
    have free : k < s.par.nslots ∧ s.plat.slotBit s.cfg.block k = false := by
      rcases chosen with ⟨requested, -⟩ | ⟨-, free⟩
      · exact absurd h.auto requested
      · exact (mem_freeSlots ..).1 free
    subst eq
    exact {
      cfg := rfl
      par := rfl
      wf := fun p hp => claims.wf (loads.wf hp)
      slot := fun j hj => by
        cases hj
        exact ⟨claims.slotBit_held hx hblock free.1, .inr free.2⟩
      chan := fun c hc => by
        obtain ⟨-, wasFree, claimed, -⟩ := claims.channel_held hx hc
        exact ⟨claimed, .inr wasFree⟩
      slot_stays := fun b j hb _ => by
        have other : b ≠ s.cfg.block ∨ j ≠ k := by
          by_contra same
          obtain ⟨rfl, rfl⟩ := not_or.1 same |>.imp not_not.1 not_not.1
          cases free.2.symm.trans hb
        exact (claims.slotBit_other loads other).trans hb
      chan_stays := fun c hc _ => by
        have other : ch ≠ .available c := fun held => by
          obtain ⟨-, wasFree, -⟩ := claims.channel_held hx held
          cases wasFree.symm.trans hc
        exact (claims.chanBit_other loads other).trans hc }

theorem ClaimStep.releases {x : Plat} (released : ReleasesTo s x) (cfg : t.cfg = s.cfg) (par : t.par = s.par) (plat : t.plat = x)
    (slot : t.slot = none) (ch : t.ch = .unavailable) : ClaimStep s t where
  cfg := cfg
  par := par
  wf := fun p hp => plat ▸ released.wf p hp
  slot := fun k hk => by cases slot.symm.trans hk
  chan := fun c hc => by cases ch.symm.trans hc
  slot_stays := fun b k hb other => plat ▸ (released.slot_other b k other).trans hb
  chan_stays := fun c hc other => plat ▸ (released.chan_other c other).trans hc

theorem ClaimStep.command {i : Instr} (h : ClaimsItself s) (effect : CommandEffect i s t) : ClaimStep s t := by
  cases effect with
  | begins _ effect => exact .begins h effect
  | ends _ _ eq =>
    obtain ⟨x, log, -, released, form⟩ := end_released s
    rw [form] at eq
    subst eq
    exact .releases released rfl rfl rfl rfl rfl
  | pixel idx p _ _ eq =>
    obtain ⟨q, -, form⟩ := paintPixel_form s idx p
    rw [form] at eq
    subst eq
    exact .of_same h rfl rfl rfl rfl rfl
  | misuse _ _ eq | fill _ _ _ eq | brightness _ _ eq | gamma _ _ eq | frameNoSlot _ _ eq | frameBusy _ _ _ eq
  | showChannel _ _ _ _ _ eq | asyncChannel _ _ _ _ _ eq | framePush _ _ _ _ _ eq | busy _ eq | waitNothing _ _ eq
  | waits _ _ eq | endNothing _ _ eq | size _ eq =>
    subst eq
    exact .of_same h rfl rfl rfl rfl rfl

theorem ClaimStep.turn {a : Agent} (h : ClaimsItself s) (effect : TurnEffect a s t) : ClaimStep s t := by
  obtain ⟨cfg, par, -⟩ := effect.keeps_inputs
  rcases effect.holdings with ⟨plat, slot, ch⟩ | ⟨cw, rest, i, -, -, effect⟩
  · exact .of_same h cfg par plat slot ch
  · have h' : ClaimsItself (s.setPort rest) := { h with }
    exact { ClaimStep.command h' effect with }

theorem ClaimStep.accept {cw : Cmd} (h : ClaimsItself s) (ht : Machine.accept cw s = .next t) : ClaimStep s t := by
  cases legal : decode cw with
  | ok i => exact .command h (exec_effect i s t ((accept_of_decode legal s).symm.trans ht))
  | error e =>
    have bad : ∀ i, decode cw ≠ .ok i := fun i hi => by cases legal.symm.trans hi
    cases (accept_of_reserved bad s).symm.trans ht
    exact .of_same h rfl rfl rfl rfl rfl

/-- A held host's step is the host's turn; an idle one has none. -/
theorem ClaimStep.heldStep (h : ClaimsItself s) (ht : turnOf s.heldStep s = .next t) : ClaimStep s t := by
  by_cases idle : s.host = .idle
  · have none : s.heldStep = none := by simp [State.heldStep, idle]
    rw [none] at ht
    cases ht
    exact .of_same h rfl rfl rfl rfl rfl
  · exact .turn h (agentTurn_effect .host s t ((hostTurn_of_held idle).trans ht))

end

/-! ### The system -/

/-- A step of one member: nothing where there is no such member, else the member's own step on the shared platform. -/
theorem onInstance_next {sy sz : System} {j : Nat} {turn : State → Result} (h : sy.onInstance j turn = .next sz) :
    sz = sy ∨ ∃ s t, sy.insts[j]? = some s ∧ turn ((s.setPlat sy.plat).setDraws sy.draws) = .next t ∧ sz = sy.write j t := by
  cases inst : sy.insts[j]? with
  | none =>
    simp only [System.onInstance, System.view, inst, Option.map_none] at h
    cases h
    exact .inl rfl
  | some s =>
    simp only [System.onInstance, System.view, inst, Option.map_some] at h
    cases result : turn ((s.setPlat sy.plat).setDraws sy.draws) with
    | next t =>
      rw [result] at h
      cases h
      exact .inr ⟨s, t, rfl, result, rfl⟩
    | fault f => simp [result] at h
    | refused r => simp [result] at h

/-- The members of a system after a write: the one written, and the others as before. -/
theorem insts_write {sy : System} {j i : Nat} {t u : State} (h : (sy.write j t).insts[i]? = some u) :
    i = j ∧ u = t ∨ i ≠ j ∧ sy.insts[i]? = some u := by
  by_cases same : i = j
  · subst same
    obtain ⟨-, eq⟩ : i < sy.insts.length ∧ t = u := by simpa [System.write, List.getElem?_set] using h
    exact .inl ⟨rfl, eq.symm⟩
  · exact .inr ⟨same, by simpa [System.write, List.getElem?_set_ne (Ne.symm same)] using h⟩

theorem claimsItself_view {sy : System} (fits : Fits sy) (once : HeldOnce sy) {j : Nat} {s : State}
    (inst : sy.insts[j]? = some s) : ClaimsItself ((s.setPlat sy.plat).setDraws sy.draws) := by
  obtain ⟨-, cfg, plat, auto⟩ := fits j s inst
  exact ⟨cfg, plat, auto, fun k => once.slot_claimed j s k inst, fun c => once.chan_claimed j s c inst⟩

/-- The members still fit the platform after a step of one. -/
theorem fits_write {sy : System} (fits : Fits sy) {j : Nat} {s t : State} (inst : sy.insts[j]? = some s)
    (claims : ClaimStep ((s.setPlat sy.plat).setDraws sy.draws) t) : Fits (sy.write j t) := by
  intro i u hu
  rcases insts_write hu with ⟨rfl, rfl⟩ | ⟨-, hu⟩
  · obtain ⟨par, cfg, plat, auto⟩ := fits i s inst
    have hpar : u.par = s.par := claims.par
    have hcfg : u.cfg = s.cfg := claims.cfg
    rw [hpar, hcfg]
    exact ⟨par, cfg, claims.wf _ plat, auto⟩
  · obtain ⟨par, cfg, plat, auto⟩ := fits i u hu
    exact ⟨par, cfg, claims.wf _ plat, auto⟩

/-- Nothing is held twice after a step of one member: what it takes was free, so no other held it, and what it gives back no other
held. -/
theorem heldOnce_write {sy : System} (once : HeldOnce sy) {j : Nat} {s t : State} (inst : sy.insts[j]? = some s)
    (claims : ClaimStep ((s.setPlat sy.plat).setDraws sy.draws) t) : HeldOnce (sy.write j t) := by
  have hcfg : t.cfg = s.cfg := claims.cfg
  have chan_other : ∀ {i u c}, i ≠ j → sy.insts[i]? = some u → u.ch = .available c → t.ch ≠ .available c := by
    intro i u c other hu held taken
    obtain ⟨-, before | free⟩ := claims.chan c taken
    · exact other (once.chan_once i j u s c hu inst held before)
    · cases (once.chan_claimed i u c hu held).symm.trans free
  have slot_other : ∀ {i u k}, i ≠ j → sy.insts[i]? = some u → u.slot = some k → u.cfg.block = s.cfg.block →
      t.slot ≠ some k := by
    intro i u k other hu held block taken
    obtain ⟨-, before | free⟩ := claims.slot k taken
    · exact other (once.slot_once i j u s k hu inst held before block)
    · cases (block ▸ once.slot_claimed i u k hu held).symm.trans free
  refine ⟨fun i u c hu held => ?chan_claimed, fun i i' u u' c hu hu' held held' => ?chan_once,
    fun i u k hu held => ?slot_claimed, fun i i' u u' k hu hu' held held' block => ?slot_once⟩
  case chan_claimed =>
    rcases insts_write hu with ⟨rfl, rfl⟩ | ⟨other, hu⟩
    · exact (claims.chan c held).1
    · exact claims.chan_stays c (once.chan_claimed i u c hu held) fun before =>
        other (once.chan_once i j u s c hu inst held before)
  case chan_once =>
    rcases insts_write hu with ⟨rfl, rfl⟩ | ⟨other, old⟩ <;> rcases insts_write hu' with ⟨rfl, rfl⟩ | ⟨other', old'⟩
    · rfl
    · exact absurd held (chan_other other' old' held')
    · exact absurd held' (chan_other other old held)
    · exact once.chan_once i i' u u' c old old' held held'
  case slot_claimed =>
    rcases insts_write hu with ⟨rfl, rfl⟩ | ⟨other, hu⟩
    · rw [hcfg]
      exact (claims.slot k held).1
    · refine claims.slot_stays _ k (once.slot_claimed i u k hu held) ?_
      by_cases block : u.cfg.block = s.cfg.block
      · exact .inr fun before => other (once.slot_once i j u s k hu inst held before block)
      · exact .inl block
  case slot_once =>
    rcases insts_write hu with ⟨rfl, rfl⟩ | ⟨other, old⟩ <;> rcases insts_write hu' with ⟨rfl, rfl⟩ | ⟨other', old'⟩
    · rfl
    · exact absurd held (slot_other other' old' held' (by rw [← block, hcfg]))
    · exact absurd held' (slot_other other old held (by rw [block, hcfg]))
    · exact once.slot_once i i' u u' k old old' held held' block

/-- A step of one member keeps both, whatever of its steps it is. -/
theorem onInstance_keeps {sy sz : System} (fits : Fits sy) (once : HeldOnce sy) {j : Nat} {turn : State → Result}
    (claims : ∀ s t, ClaimsItself s → turn s = .next t → ClaimStep s t) (h : sy.onInstance j turn = .next sz) :
    Fits sz ∧ HeldOnce sz := by
  rcases onInstance_next h with rfl | ⟨s, t, inst, ht, rfl⟩
  · exact ⟨fits, once⟩
  · have step := claims _ t (claimsItself_view fits once inst) ht
    exact ⟨fits_write fits inst step, heldOnce_write once inst step⟩

/-- The system's inputs do not enter what is held. -/
theorem heldOnce_inputs {sy : System} (once : HeldOnce sy) (port : List (Nat × Cmd)) (sched : List Member) (turn : Nat) :
    HeldOnce { sy with port := port, sched := sched, turn := turn } :=
  { once with }

theorem hostTurn_keeps {sy sz : System} (fits : Fits sy) (once : HeldOnce sy) (h : sy.hostTurn = .next sz) :
    Fits sz ∧ HeldOnce sz := by
  unfold System.hostTurn at h
  split at h
  · exact onInstance_keeps fits once (fun s t hs => ClaimStep.heldStep hs) h
  · split at h
    · cases h
      exact ⟨fits, once⟩
    · next rest _ =>
      exact onInstance_keeps (sy := { sy with port := rest }) fits (heldOnce_inputs once rest sy.sched sy.turn)
        (fun s t hs => ClaimStep.accept hs) h

theorem memberTurn_keeps {sy sz : System} (fits : Fits sy) (once : HeldOnce sy) (m : Member) (h : sy.memberTurn m = .next sz) :
    Fits sz ∧ HeldOnce sz := by
  have agent : ∀ a s t, ClaimsItself s → agentTurn a s = .next t → ClaimStep s t := fun a s t hs ht =>
    .turn hs (agentTurn_effect a s t ht)
  cases m with
  | host => exact hostTurn_keeps fits once h
  | channel j => exact onInstance_keeps fits once (agent .channel) h
  | engine j => exact onInstance_keeps fits once (agent .engine) h
  | time j => exact onInstance_keeps fits once (agent .time) h

/-- Settles O56: whoever moves, the step is one member's on the shared platform (`onInstance_keeps`). -/
theorem heldResourcesStayDistinct : Obligations.HeldResourcesStayDistinct := by
  unfold Obligations.HeldResourcesStayDistinct
  intro sy sz fits once h
  have once' := heldOnce_inputs once sy.port sy.sched.tail (sy.turn + 1)
  unfold System.step at h
  split at h
  · cases h
  · exact memberTurn_keeps (sy := { sy with sched := sy.sched.tail, turn := sy.turn + 1 }) fits once' sy.nextMember h

end Sys2Proof.Machine
end
